-- ==== Sys2Proof/Word.lean ====
section
/-!
DEFINITION. The words of the DXT4R core: bytes, 64-bit registers and binary32 encodings.
Only names for core bit vector types stand here (spec/00_scope.md rules R6, R7).
-/

namespace Sys2Proof

/-- One byte of the buffer space (spec/10_state.md rule R43). -/
abbrev Byte := BitVec 8

/-- A register or an address of `RW = AW = CW = XW = 64` bits (spec/00_scope.md rule R6). -/
abbrev Word64 := BitVec 64

/-- The encoding of an IEEE 754 binary32 value (spec/45_statistics.md rule R281). -/
abbrev F32 := BitVec 32

/-- A format tag or a command code: `CR.FMT` and `CR.CMD` hold 4 bits (spec/10_state.md rules R33, R35). -/
abbrev Nibble := BitVec 4

end Sys2Proof
end

