-- ==== Sys2Proof/Machine/Flags.lean ====
section
/-!
DEFINITION. The core's flag computations: the sub-type tests that give `DR.SUB` (spec/10_state.md rule R32) and the
histogram buckets of BC1, BC3, BC4 and BC5 (spec/44_classifier.md rules R255 to R259).
-/

namespace Sys2Proof.Machine

/-- `transparent(B)` of a BC1 block (spec/41_bc1_bc5.md rule R163): `C0 <= C1` unsigned; the tie is transparent. -/
def transparent (c0 c1 : BitVec 16) : Bool := decide (c0.toNat ≤ c1.toNat)

/-- `sixvalue` of a BC3 or unsigned BC4 block (rules R166, R170): not `E0 > E1` unsigned; the tie is 6-value. -/
def sixvalueU (e0 e1 : BitVec 8) : Bool := !decide (e1.toNat < e0.toNat)

/-- `sixvalue` of a signed BC4 block (rule R170): not `sext_8(E0) > sext_8(E1)`. -/
def sixvalueS (e0 e1 : BitVec 8) : Bool := !decide (e1.toInt < e0.toInt)

/-- `DR.SUB` from its two flags: bit 0 is `SUB.T0`, bit 1 is `SUB.T1` (spec/10_state.md rule R32). -/
def subBits (t0 t1 : Bool) : BitVec 2 := BitVec.ofNat 2 (t0.toNat + 2 * t1.toNat)

/-- The bucket of the first pair that a sub-type flag selects: 0 or 1 (spec/44_classifier.md rules R255, R257, R258). -/
def lowBucket (t : Bool) : Fin 15 := if t then 1 else 0

/-- The bucket of the second pair that a sub-type flag selects: 2 or 3 (rule R259). -/
def highBucket (t : Bool) : Fin 15 := if t then 3 else 2

end Sys2Proof.Machine
end

