-- ==== Sys2Proof/Machine/Fixup.lean ====
section
/-!
DEFINITION. The extractor on integers, sign extension, the partition fix-up table and the index unpacker
(spec/40_extract_fixup.md). The table is a constant of the machine (spec/10_state.md rule R21).
-/

namespace Sys2Proof.Machine

/-- `extract(B, N, off, w)` (rule R140): `(B >> off) mod 2^w`, which is 0 for `w = 0`. -/
def extractField (B off w : Nat) : Nat := (B >>> off) % 2 ^ w

/-- `sext_k(raw)` as an integer (rule R146; spec/00_scope.md rule R8): minus `2^k` when bit `k-1` is set. -/
def sextInt (k raw : Nat) : Int := if raw.testBit (k - 1) then (raw : Int) - 2 ^ k else raw

/-- `A2[s]`: the second subset's fix-up position of two (rule R148). -/
def fixupA2 : List Nat :=
  [15, 15, 15, 15, 15, 15, 15, 15,
   15, 15, 15, 15, 15, 15, 15, 15,
   15, 2, 8, 2, 2, 8, 8, 15,
   2, 8, 2, 2, 8, 8, 2, 2,
   15, 15, 6, 8, 2, 8, 15, 15,
   2, 8, 2, 2, 2, 15, 15, 6,
   6, 2, 6, 8, 15, 15, 2, 2,
   15, 15, 15, 15, 15, 2, 2, 15]

/-- `A3a[s]`: the second subset's fix-up position of three (rule R148). -/
def fixupA3a : List Nat :=
  [3, 3, 15, 15, 8, 3, 15, 15,
   8, 8, 6, 6, 6, 5, 3, 3,
   3, 3, 8, 15, 3, 3, 6, 10,
   5, 8, 8, 6, 8, 5, 15, 15,
   8, 15, 3, 5, 6, 10, 8, 15,
   15, 3, 15, 5, 15, 15, 15, 15,
   3, 15, 5, 5, 5, 8, 5, 10,
   5, 10, 8, 13, 15, 12, 3, 3]

/-- `A3b[s]`: the third subset's fix-up position of three (rule R148). -/
def fixupA3b : List Nat :=
  [15, 8, 8, 3, 15, 15, 3, 8,
   15, 15, 15, 15, 15, 15, 15, 8,
   15, 8, 15, 3, 15, 8, 15, 8,
   3, 15, 6, 10, 15, 15, 10, 8,
   15, 3, 15, 10, 10, 8, 9, 10,
   6, 15, 8, 15, 3, 6, 6, 8,
   15, 3, 15, 15, 15, 15, 15, 15,
   15, 15, 15, 15, 3, 15, 15, 8]

/-- `FIXUP[p][s][q]` (rules R148, R150): column 0 and every column `q > p` hold 0. -/
def fixupEntry (p s q : Nat) : Nat :=
  match p, q with
  | 1, 1 => fixupA2.getD s 0
  | 2, 1 => fixupA3a.getD s 0
  | 2, 2 => fixupA3b.getD s 0
  | _, _ => 0

/-- `isfix(p, s, j)` (rule R151): `j` is `FIXUP[p][s][q]` for some `q ≤ p`. -/
def isfix (p s j : Nat) : Bool := (List.range (p + 1)).any fun q => fixupEntry p s q == j

/-- `w_j`: the width of pixel `j`'s index (rule R152). -/
def idxWidth (n p s j : Nat) : Nat := if isfix p s j then n - 1 else n

/-- `pos_j`: where pixel `j`'s index begins, the sum of the widths before it (rules R152, R154). -/
def idxPos (n p s : Nat) : Nat → Nat
  | 0 => 0
  | j + 1 => idxPos n p s j + idxWidth n p s j

/-- `unpack(F, n, p, s)` (rule R152): the sixteen indices, zero-extended. -/
def unpack (F n p s : Nat) : Vector (BitVec 4) 16 :=
  Vector.ofFn fun j => BitVec.ofNat 4 ((F >>> idxPos n p s j.val) % 2 ^ idxWidth n p s j.val)

/-- `pack(idx, n, p, s)` (rule R154), the inverse of `unpack`: `Σ_j idx[j] << pos_j`. -/
def pack (idx : Vector (BitVec 4) 16) (n p s : Nat) : Nat :=
  (List.range 16).foldl (fun acc j => acc + (idx.toList.getD j 0).toNat <<< idxPos n p s j) 0

end Sys2Proof.Machine
end

