-- ==== Sys2Proof/Config.lean ====
section
/-!
DEFINITION. What an implementation of the core fixes (the parameters that spec/00_scope.md rule R6 marks OPEN)
and the FREE VALUES: opaque constants that stand for the values spec/93_implementation_defined.md leaves open.
-/

namespace Sys2Proof

/-- What bounds the column walk of a block row: parameter `COLBOUND` (spec/10_state.md rule R29, decision D8). -/
inductive ColBound where
  /-- `ncols = floor(WIDTH / 4)`, the default. -/
  | width
  /-- `ncols = ceil(PITCH / n)`. -/
  | pitch
  deriving DecidableEq, Repr

/-- The bucket that a BC2 block increments: parameter `BC2_BUCKET` (spec/44_classifier.md rule R256, decision D11). -/
inductive Bc2Bucket where
  /-- No bucket, the default. -/
  | noBucket
  /-- Bucket 0. -/
  | bucketZero
  deriving DecidableEq, Repr

/-- The divisor of the variance: parameter `VAR_DIV` (spec/45_statistics.md rule R289, decision D24). -/
inductive VarDiv where
  /-- The pixel count `N`, the default. -/
  | n
  /-- `N - 1`. -/
  | nMinusOne
  /-- No division: the raw sum. -/
  | one
  deriving DecidableEq, Repr

/-- What `fmin` and `fmax` do with a new value that is a NaN: the open field of the numerics record `NUM`
(spec/45_statistics.md rule R281, spec/93_implementation_defined.md entry U9, decision D22). -/
inductive NanRule where
  /-- The accumulator is kept, the default. -/
  | keepAccumulator
  /-- The NaN replaces the accumulator. -/
  | takeNaN
  deriving DecidableEq, Repr

/-- The parameters that a model takes as arguments (spec/00_scope.md rule R6, the rows marked OPEN).
They are constants of a machine: no command changes them (spec/10_state.md rule R21). -/
structure Params where
  colBound  : ColBound
  bc2Bucket : Bc2Bucket
  varDiv    : VarDiv
  nanRule   : NanRule
  deriving DecidableEq, Repr

/-- The defaults of the open parameters (spec/92_eei_decisions.md, "Open parameters in one list"). -/
def Params.default : Params :=
  { colBound := .width, bc2Bucket := .noBucket, varDiv := .n, nanRule := .keepAccumulator }

/-- The binary32 operations whose result can be a NaN (spec/45_statistics.md rule R281). -/
inductive FOp where
  | add
  | sub
  | mul
  | div
  | sqrt
  deriving DecidableEq, Repr

/-- FREE VALUE. The byte that a read finds at a buffer address the host has not loaded: unspecified
(spec/20_memory.md rule R68, spec/93_implementation_defined.md entry U5). Log entry 2. -/
opaque Config.unloadedByte : Word64 → Byte

/-- FREE VALUE. The bits that pick the sign and the payload of the NaN an operation delivers on two operands
(spec/45_statistics.md rule R281, spec/93_implementation_defined.md entry U7). Log entry 3. -/
opaque Config.nanFree : FOp → F32 → F32 → F32

end Sys2Proof
end

