-- ==== Sys2Proof/Machine/State.lean ====
section
/-!
DEFINITION. The state of the machine as plain data: every register of spec/10_state.md, its hidden state, the buffer
memory, and the model's own fields (log entries 1, 6, 7 and 13); the ways a step can stop; the state after reset.
-/

namespace Sys2Proof.Machine

/-- `STATUS.PHASE` (spec/10_state.md rule R36). The value 3 is never taken. -/
inductive Phase where
  /-- No command has run since reset. -/
  | none
  /-- A command is executing. -/
  | run
  /-- The last command has ended, with or without error. -/
  | terminal
  deriving DecidableEq, Repr

/-- `STATUS.ERR` (spec/60_exceptions.md rule R340). The value 7 is never taken. -/
inductive ErrCode where
  | none
  | unsupportedFormat
  | reservedModeEncountered
  /-- Never raised by this core (rule R347). -/
  | dimensionMismatch
  | emptyInput
  | nullBuffer
  | illegalOperand
  deriving DecidableEq, Repr

/-- `HS.STEP` (spec/10_state.md rule R45). -/
inductive HStep where
  | dispatch
  | accum
  | pass1
  | pass2
  deriving DecidableEq, Repr

/-- The descriptor registers `CR.FMT` to `CR.OP2`, numbers 0 to 9 (spec/10_state.md rules R33, R34). -/
structure CtrlRegs where
  fmt    : Nibble
  width  : Word64
  height : Word64
  pitch  : Word64
  base   : Word64
  bX     : Word64
  bY     : Word64
  op0    : Word64
  op1    : Word64
  op2    : Word64
  deriving DecidableEq, Repr

/-- `STATUS`, number 11 (spec/10_state.md rule R36). -/
structure Status where
  phase : Phase
  err   : ErrCode
  histv : Bool
  statv : Bool
  decv  : Bool
  xv    : Bool
  deriving DecidableEq, Repr

/-- The statistics accumulator `ST`, numbers 32 to 57 (spec/10_state.md rule R42). -/
structure StatRegs where
  min     : Vector F32 4
  max     : Vector F32 4
  avg     : Vector F32 4
  var     : Vector F32 4
  sd      : Vector F32 4
  maxlum  : F32
  special : Vector Word64 4
  npix    : Word64
  deriving DecidableEq, Repr

/-- The decode result file `DR`, numbers 64 to 191 (spec/10_state.md rules R22, R32). -/
structure DecodeResult where
  mode  : BitVec 5
  ns    : BitVec 2
  shape : BitVec 6
  rot   : BitVec 2
  isel  : BitVec 1
  sub   : BitVec 2
  ndiv  : BitVec 8
  c565  : Vector (BitVec 16) 2
  epraw : Vector (Vector (BitVec 16) 4) 6
  ep    : Vector (Vector (BitVec 16) 4) 6
  pb    : Vector (BitVec 1) 6
  ix0   : Vector (BitVec 4) 16
  ix1   : Vector (BitVec 4) 16
  deriving DecidableEq, Repr

/-- The hidden state `HS` (spec/10_state.md rules R28, R44 to R46). -/
structure Hidden where
  /-- `HS.CMD`: the code of the command in execution, meaningful only while `PHASE = RUN`. -/
  cmd  : Nibble
  /-- `HS.BY`: block row, or pixel row, of the cursor. -/
  bY   : Word64
  /-- `HS.BX`: block column, or pixel column, of the cursor. -/
  bX   : Word64
  /-- `HS.STEP`. -/
  step : HStep
  /-- `HS.SUM[c]`. -/
  sum  : Vector F32 4
  deriving DecidableEq, Repr

/-- One access of the outside world that the machine has not served yet. Log entries 1, 14 and 19. -/
inductive HostOp where
  /-- The host reads register `n` (spec/46_commands.md rule R319). -/
  | read (n : Nat)
  /-- The host writes `v` to register `n` (rules R310, R319). -/
  | write (n : Nat) (v : Word64)
  /-- The host loads bytes into the buffer from address `addr` upward (spec/20_memory.md rule R70). -/
  | store (addr : Word64) (bytes : List Byte)
  /-- Reset is applied, when the core is idle or after `after` more of its steps (spec/70_reset_and_hazards.md rule R370). -/
  | reset (after : Nat)
  deriving DecidableEq, Repr

/-- The buffer memory: the bytes that have been loaded, by address, in the canonical form `Memory.wf`. -/
abbrev Memory := List Host.Cell

/-- The machine's state. -/
structure State where
  /-- `CR.FMT` to `CR.OP2`. -/
  cr     : CtrlRegs
  /-- `CR.CMD`: the code of a command that has been written and has not started (rule R35). Log entry 5. -/
  crCmd  : Option Nibble
  /-- `STATUS`. -/
  status : Status
  /-- `EINFO`, number 13 (rule R37). -/
  einfo  : Word64
  /-- `XRES`, number 12 (rule R38). -/
  xres   : Word64
  /-- `TOTAL`, number 16 (rule R40). -/
  total  : Word64
  /-- `HIST[k]`, numbers 17 to 31 (rules R40, R41). -/
  hist   : Vector Word64 15
  /-- `ST`. -/
  st     : StatRegs
  /-- `DR`. -/
  dr     : DecodeResult
  /-- `HS`. -/
  hs     : Hidden
  /-- The buffer space (rule R43). -/
  mem    : Memory
  /-- The open parameters: constants of the machine (rule R21), never written by a step. Log entry 6. -/
  params : Params
  /-- The MODEL's own field: the list `L` that the block at the cursor gave at DISPATCH, for ACCUM to count
  (spec/44_classifier.md rule R253). Empty at every other time. Log entry 7. -/
  buckets : List (Fin 15)
  /-- The MODEL's own field: "cursor past the last block" (rule R266), while the cursor itself rests on the last block
  (spec/10_state.md rule R30). Log entry 7. -/
  exhausted : Bool
  /-- The MODEL's own field: the host's accesses not yet served, the oldest first. Log entry 1. -/
  inbox  : List HostOp
  /-- The MODEL's own field: the data of the host's last register read. Log entry 13. -/
  readData : Word64
  deriving DecidableEq, Repr

/-- Why the machine stops with a fault. -/
inductive Fault where
  /-- Raised by `Sys2Proof.Machine.coreStep` when `PHASE = RUN` and `HS.CMD` is none of CLASSIFY, DECODE, STATS, or the tag
  in `CR.FMT` has no layout (`blockStep`), or `HS.STEP` is none of the inner states of the command (`classifyStep`,
  `statsStep`): no rule of the spec describes such a state and no run from reset reaches it.
  Safe: the model stops where the spec is silent. Log entry 10. -/
  | stuckRun
  deriving DecidableEq, Repr

/-- Why the machine refuses an instruction. -/
inductive Refusal where
  /-- The instruction has no meaning in the model yet. Raised by no arm of this model. Safe. -/
  | notModelled (mnemonic : String)
  /-- A command is executed while `PHASE = RUN`: it cannot occur at transaction level and a model with finer steps
  should refuse it (spec/93_implementation_defined.md entry U12). Raised by the command meanings. Safe. -/
  | commandDuringRun
  /-- A block is executed while no CLASSIFY at DISPATCH and no DECODE is fetching blocks: nothing fetches it then
  (spec/20_memory.md rule R66). Raised by the block meanings. Safe. Log entry 10. -/
  | blockOutsidePass
  deriving DecidableEq, Repr

/-- `DR` with every register 0 (spec/10_state.md rule R24: "all others get 0"). -/
def DecodeResult.zero : DecodeResult where
  mode := 0
  ns := 0
  shape := 0
  rot := 0
  isel := 0
  sub := 0
  ndiv := 0
  c565 := Vector.replicate 2 0
  epraw := Vector.replicate 6 (Vector.replicate 4 0)
  ep := Vector.replicate 6 (Vector.replicate 4 0)
  pb := Vector.replicate 6 0
  ix0 := Vector.replicate 16 0
  ix1 := Vector.replicate 16 0

/-- `ST` with every register 0: the value log entry 4 names for reset. -/
def StatRegs.zero : StatRegs where
  min := Vector.replicate 4 0
  max := Vector.replicate 4 0
  avg := Vector.replicate 4 0
  var := Vector.replicate 4 0
  sd := Vector.replicate 4 0
  maxlum := 0
  special := Vector.replicate 4 0
  npix := 0

/-- The descriptor registers after reset (rule R48). -/
def CtrlRegs.zero : CtrlRegs where
  fmt := 0
  width := 0
  height := 0
  pitch := 0
  base := 0
  bX := 0
  bY := 0
  op0 := 0
  op1 := 0
  op2 := 0

/-- The machine right after reset (spec/10_state.md rule R48; spec/70_reset_and_hazards.md rules R370, R371): idle in
`PHASE = NONE`, nothing loaded. `XRES`, `TOTAL`, `HIST`, `ST`, `DR` and `HS.SUM` are unspecified by the spec and 0 here
(DESIGN CHOICE, log entry 4). -/
def State.reset : State where
  cr := CtrlRegs.zero
  crCmd := none
  status := { phase := .none, err := .none, histv := false, statv := false, decv := false, xv := false }
  einfo := 0
  xres := 0
  total := 0
  hist := Vector.replicate 15 0
  st := StatRegs.zero
  dr := DecodeResult.zero
  hs := { cmd := 0, bY := 0, bX := 0, step := .dispatch, sum := Vector.replicate 4 0 }
  mem := []
  params := Params.default
  buckets := []
  exhausted := false
  inbox := []
  readData := 0

end Sys2Proof.Machine
end

