-- ==== Sys2Proof/Syntax.lean ====
section
/-!
DEFINITION. The instructions of the DXT4R core: one constructor of `Instr` per row of spec/opcode_table.json.
A compressed block is the core's instruction word and a host command is an instruction too
(spec/30_encoding.md rules R107, R110; spec/92_eei_decisions.md D1).
-/

namespace Sys2Proof

/-- The ten supported block formats (spec/10_state.md rule R33): the meaning of a format tag 1 to 10. -/
inductive Format where
  | bc1
  | bc2
  | bc3
  | bc4u
  | bc4s
  | bc5u
  | bc5s
  | bc6hu
  | bc6hs
  | bc7
  deriving DecidableEq, Repr

/-- The block kinds of BC6H: the fourteen modes and the four reserved patterns (spec/42_bc6h.md rules R181, R200). -/
inductive Bc6hKind where
  | m1
  | m2
  | m3
  | m4
  | m5
  | m6
  | m7
  | m8
  | m9
  | m10
  | m11
  | m12
  | m13
  | m14
  | rsvd13
  | rsvd17
  | rsvd1B
  | rsvd1F
  deriving DecidableEq, Repr

/-- The block kinds of BC7: the eight modes and the reserved all-zero first byte (spec/43_bc7.md rules R221, R232). -/
inductive Bc7Kind where
  | m0
  | m1
  | m2
  | m3
  | m4
  | m5
  | m6
  | m7
  | rsvd
  deriving DecidableEq, Repr

/-- Where an instruction's bits come from: the value written to `CR.CMD`, or a block in the buffer fetched under
a format tag (spec/30_encoding.md rules R107, R110). -/
inductive Source where
  | command
  | block (tag : Nibble)
  deriving DecidableEq, Repr

/-- Why the decoder gives no instruction. -/
inductive Reject where
  /-- The format tag is 0 or 11 to 15: it has no block layout (spec/30_encoding.md rule R109). -/
  | unsupportedFormat
  /-- The bytes are not as many as the instruction has (spec/30_encoding.md rule R90). -/
  | wrongLength
  deriving DecidableEq, Repr

/-- The fields of a two-subset BC6H block (modes 1 to 10) of precision `[w x y z]`
(spec/42_bc6h.md rules R182, R184): endpoints 0 to 3 are `W X Y Z`, the channels are `r g b`. -/
structure Bc6hTwo (w x y z : Nat) where
  rW : BitVec w
  gW : BitVec w
  bW : BitVec w
  rX : BitVec x
  gX : BitVec y
  bX : BitVec z
  rY : BitVec x
  gY : BitVec y
  bY : BitVec z
  rZ : BitVec x
  gZ : BitVec y
  bZ : BitVec z
  /-- The partition shape `D`. -/
  d   : BitVec 5
  /-- The index field, 46 bits. -/
  idx : BitVec 46
  deriving DecidableEq, Repr

/-- The fields of a one-subset BC6H block (modes 11 to 14) of precision `[w x]` (spec/42_bc6h.md rules R182, R184). -/
structure Bc6hOne (w x : Nat) where
  rW : BitVec w
  gW : BitVec w
  bW : BitVec w
  rX : BitVec x
  gX : BitVec x
  bX : BitVec x
  /-- The index field, 63 bits. -/
  idx : BitVec 63
  deriving DecidableEq, Repr

/-- The fields of a BC7 block (spec/30_encoding.md rules R100, R101). The arguments are the row of rule R100:
`PART` bits, `ROT` bits, `ISEL` bits, endpoints, colour bits, alpha bits, P-bits, index bits, second index bits.
A field the mode does not have is 0 bits wide. -/
structure Bc7Fields (part rot isel ne col alpha np ix ix2 : Nat) where
  part : BitVec part
  rot  : BitVec rot
  isel : BitVec isel
  r : Vector (BitVec col) ne
  g : Vector (BitVec col) ne
  b : Vector (BitVec col) ne
  a : Vector (BitVec alpha) ne
  p : Vector (BitVec 1) np
  idx  : BitVec ix
  idx2 : BitVec ix2
  deriving DecidableEq, Repr

/-- The instructions: 34 block kinds, 7 commands and the 2 rows of illegal command codes
(spec/30_encoding.md rule R107, spec/opcode_table.json). -/
inductive Instr where
  /-- `BC1` (spec/41_bc1_bc5.md rule R162). -/
  | bc1 (c0 c1 : BitVec 16) (idx : BitVec 32)
  /-- `BC2` (rule R164). -/
  | bc2 (abm : BitVec 64) (c0 c1 : BitVec 16) (idx : BitVec 32)
  /-- `BC3` (rule R165). -/
  | bc3 (a0 a1 : BitVec 8) (aidx : BitVec 48) (c0 c1 : BitVec 16) (idx : BitVec 32)
  /-- `BC4U` (rule R167). -/
  | bc4u (e0 e1 : BitVec 8) (idx : BitVec 48)
  /-- `BC4S` (rule R169). -/
  | bc4s (e0 e1 : BitVec 8) (idx : BitVec 48)
  /-- `BC5U` (rule R171). -/
  | bc5u (ue0 ue1 : BitVec 8) (uidx : BitVec 48) (ve0 ve1 : BitVec 8) (vidx : BitVec 48)
  /-- `BC5S` (rule R172). -/
  | bc5s (ue0 ue1 : BitVec 8) (uidx : BitVec 48) (ve0 ve1 : BitVec 8) (vidx : BitVec 48)
  /-- `BC6H.M1` (spec/42_bc6h.md rule R186). -/
  | bc6hM1 (f : Bc6hTwo 10 5 5 5)
  /-- `BC6H.M2` (rule R187). -/
  | bc6hM2 (f : Bc6hTwo 7 6 6 6)
  /-- `BC6H.M3` (rule R188). -/
  | bc6hM3 (f : Bc6hTwo 11 5 4 4)
  /-- `BC6H.M4` (rule R189). -/
  | bc6hM4 (f : Bc6hTwo 11 4 5 4)
  /-- `BC6H.M5` (rule R190). -/
  | bc6hM5 (f : Bc6hTwo 11 4 4 5)
  /-- `BC6H.M6` (rule R191). -/
  | bc6hM6 (f : Bc6hTwo 9 5 5 5)
  /-- `BC6H.M7` (rule R192). -/
  | bc6hM7 (f : Bc6hTwo 8 6 5 5)
  /-- `BC6H.M8` (rule R193). -/
  | bc6hM8 (f : Bc6hTwo 8 5 6 5)
  /-- `BC6H.M9` (rule R194). -/
  | bc6hM9 (f : Bc6hTwo 8 5 5 6)
  /-- `BC6H.M10` (rule R195). -/
  | bc6hM10 (f : Bc6hTwo 6 6 6 6)
  /-- `BC6H.M11` (rule R196). -/
  | bc6hM11 (f : Bc6hOne 10 10)
  /-- `BC6H.M12` (rule R197). -/
  | bc6hM12 (f : Bc6hOne 11 9)
  /-- `BC6H.M13` (rule R198). -/
  | bc6hM13 (f : Bc6hOne 12 8)
  /-- `BC6H.M14` (rule R199). -/
  | bc6hM14 (f : Bc6hOne 16 4)
  /-- `BC6H.RSVD.13`: `B[4:0] = 10011`; `rest` is `B[127:5]`, never examined (rule R200). -/
  | bc6hRsvd13 (rest : BitVec 123)
  /-- `BC6H.RSVD.17`: `B[4:0] = 10111` (rule R200). -/
  | bc6hRsvd17 (rest : BitVec 123)
  /-- `BC6H.RSVD.1B`: `B[4:0] = 11011` (rule R200). -/
  | bc6hRsvd1B (rest : BitVec 123)
  /-- `BC6H.RSVD.1F`: `B[4:0] = 11111` (rule R200). -/
  | bc6hRsvd1F (rest : BitVec 123)
  /-- `BC7.M0` (spec/43_bc7.md rule R224). -/
  | bc7M0 (f : Bc7Fields 4 0 0 6 4 0 6 45 0)
  /-- `BC7.M1` (rule R225). -/
  | bc7M1 (f : Bc7Fields 6 0 0 4 6 0 2 46 0)
  /-- `BC7.M2` (rule R226). -/
  | bc7M2 (f : Bc7Fields 6 0 0 6 5 0 0 29 0)
  /-- `BC7.M3` (rule R227). -/
  | bc7M3 (f : Bc7Fields 6 0 0 4 7 0 4 30 0)
  /-- `BC7.M4` (rule R228). -/
  | bc7M4 (f : Bc7Fields 0 2 1 2 5 6 0 31 47)
  /-- `BC7.M5` (rule R229). -/
  | bc7M5 (f : Bc7Fields 0 2 0 2 7 8 0 31 31)
  /-- `BC7.M6` (rule R230). -/
  | bc7M6 (f : Bc7Fields 0 0 0 2 7 7 2 63 0)
  /-- `BC7.M7` (rule R231). -/
  | bc7M7 (f : Bc7Fields 6 0 0 4 5 5 4 30 0)
  /-- `BC7.RSVD`: `B[7:0] = 0`; `rest` is `B[127:8]`, never examined (rule R232). -/
  | bc7Rsvd (rest : BitVec 120)
  /-- `CLASSIFY`, code 1 (spec/46_commands.md rule R312). -/
  | classify
  /-- `DECODE`, code 2 (rule R313). -/
  | decode
  /-- `STATS`, code 3 (rule R314). -/
  | stats
  /-- `EXTRACT`, code 4 (rule R315). -/
  | extract
  /-- `SEXT`, code 5 (rule R316). -/
  | sext
  /-- `FIXUP`, code 6 (rule R317). -/
  | fixup
  /-- `ISFIX`, code 7 (rule R317). -/
  | isfix
  /-- `CMD.ILLEGAL.0`, code 0 (rule R318). -/
  | cmdIllegal0
  /-- `CMD.ILLEGAL.8_15`, codes 8 to 15 (rule R318): `code` is the code written. -/
  | cmdIllegal8to15 (code : Nibble)
  deriving DecidableEq, Repr

end Sys2Proof
end

