-- ==== Sys2Proof/Machine/Operands.lean ====
section
/-!
DEFINITION. The operand forms: how a block's fields become the values of the decode result file `DR`
(spec/30_encoding.md rules R102 to R106; spec/10_state.md rules R22, R23).
-/

namespace Sys2Proof.Machine

/-- A BC1 to BC5 bitmap of sixteen full-width entries: entry `j` is bits `w*j + w - 1 : w*j` (rules R92 to R95, R106). -/
def bitmap (w : Nat) {k : Nat} (f : BitVec k) : Vector (BitVec 4) 16 :=
  Vector.ofFn fun j => (f.extractLsb' (w * j.val) w).setWidth 4

/-- The components of one endpoint, R, G, B, A. -/
def rgba (r g b a : BitVec 16) : Vector (BitVec 16) 4 := #v[r, g, b, a]

/-- `c565(C)` (spec/41_bc1_bc5.md rule R161), with the alpha slot given. -/
def c565 (c : BitVec 16) (a : BitVec 16) : Vector (BitVec 16) 4 :=
  rgba ((c.extractLsb' 11 5).setWidth 16) ((c.extractLsb' 5 6).setWidth 16) ((c.extractLsb' 0 5).setWidth 16) a

/-- An endpoint with every component 0. -/
def noEndpoint : Vector (BitVec 16) 4 := rgba 0 0 0 0

/-- An endpoint component as `DR` holds it (spec/10_state.md rule R23): `tc_16` of the sign-extended field where the
format is signed (spec/40_extract_fixup.md rule R146, at the field's own width), else `zext_16`. -/
def component (signed : Bool) {w : Nat} (x : BitVec w) : BitVec 16 :=
  if signed then BitVec.ofInt 16 (sextInt w x.toNat) else BitVec.ofNat 16 x.toNat

/-- P-bit reconstruction (rule R105): `(raw << 1) | P`. -/
def withPBit (raw : BitVec 16) (p : BitVec 1) : BitVec 16 := (raw <<< 1) ||| p.setWidth 16

/-- Element `e` of a vector of fields, as `DR` holds an unsigned one; 0 where the mode has no such endpoint. -/
def fieldAt {w n : Nat} (v : Vector (BitVec w) n) (e : Nat) : BitVec 16 := BitVec.ofNat 16 (v.toList.getD e 0).toNat

/-- Element `e` of a list of P-bits, 0 where there is none. -/
def pbitAt (ps : List (BitVec 1)) (e : Nat) : BitVec 1 := ps.getD e 0

end Sys2Proof.Machine
end

