-- ==== Sys2Proof/WellFormed.lean ====
section
/-!
DEFINITION. Which terms of `Instr` stand for an instruction of spec/opcode_table.json.
The operands are bit vectors of the widths the layouts give them, so every block term is well formed
("every bit pattern of the right length is a legal block", spec/41_bc1_bc5.md rule R160; spec/42_bc6h.md rule R203;
spec/43_bc7.md rule R237). The one check is that of the row `CMD.ILLEGAL.8_15`.
-/

namespace Sys2Proof

/-- `i` is an instruction of the opcode table: a term of the row `CMD.ILLEGAL.8_15` carries a code from 8 to 15
(mask `0x08`, match `0x08`; spec/46_commands.md rule R318), and nothing else can be ill formed. -/
def Instr.wellFormed : Instr → Bool
  | .cmdIllegal8to15 code => 8 ≤ code.toNat
  | .bc1 .. | .bc2 .. | .bc3 .. | .bc4u .. | .bc4s .. | .bc5u .. | .bc5s ..
  | .bc6hM1 _ | .bc6hM2 _ | .bc6hM3 _ | .bc6hM4 _ | .bc6hM5 _ | .bc6hM6 _ | .bc6hM7 _
  | .bc6hM8 _ | .bc6hM9 _ | .bc6hM10 _ | .bc6hM11 _ | .bc6hM12 _ | .bc6hM13 _ | .bc6hM14 _
  | .bc6hRsvd13 _ | .bc6hRsvd17 _ | .bc6hRsvd1B _ | .bc6hRsvd1F _
  | .bc7M0 _ | .bc7M1 _ | .bc7M2 _ | .bc7M3 _ | .bc7M4 _ | .bc7M5 _ | .bc7M6 _ | .bc7M7 _ | .bc7Rsvd _
  | .classify | .decode | .stats | .extract | .sext | .fixup | .isfix | .cmdIllegal0 => true

end Sys2Proof
end

