-- ==== Sys2Proof/Decode.lean ====
section
/-!
DEFINITION. The decoder, total on any bytes, and the encoder, both written from the layouts of spec/30_encoding.md,
spec/42_bc6h.md and spec/43_bc7.md (spec/opcode_table.json is their machine-readable copy).
A block is the integer of spec/00_scope.md rule R7, held at 128 bits; a 64-bit block has its high half zero.
-/

namespace Sys2Proof

/-! ## Bytes and blocks -/

/-- The little-endian unsigned integer of a list of bytes, the first at the lowest address (rule R7). -/
def leNat : List Byte → Nat
  | [] => 0
  | b :: bs => b.toNat + 256 * leNat bs

/-- The block a list of bytes holds (rules R7, R61). -/
def blockOfBytes (bs : List Byte) : BitVec 128 := BitVec.ofNat 128 (leNat bs)

/-- The low `n` bytes of a block in ascending address order (rule R7). -/
def bytesOfBlock : Nat → BitVec 128 → List Byte
  | 0, _ => []
  | n + 1, B => B.setWidth 8 :: bytesOfBlock n (B >>> 8)

/-! ## Fields: extract, gather and their inverses -/

/-- The field of width `w` at offset `off` (rule R102): `B[off+w-1 : off]`. -/
def field (B : BitVec 128) (off w : Nat) : BitVec w := B.extractLsb' off w

/-- The block whose one field at offset `off` is `x`, zero elsewhere: the inverse of `field`. -/
def place (off : Nat) {w : Nat} (x : BitVec w) : BitVec 128 := x.setWidth 128 <<< off

/-- One sub-range of a split field: `w` block bits from `off` are the field's bits from `sh` (rules R103, R144). -/
structure Part where
  off : Nat
  w   : Nat
  sh  : Nat
  deriving DecidableEq, Repr

/-- Reassembly of a split field by OR-ing its shifted sub-ranges (spec/40_extract_fixup.md rule R144). -/
def gather (W : Nat) (B : BitVec 128) : List Part → BitVec W
  | [] => 0
  | p :: ps => ((field B p.off p.w).setWidth W <<< p.sh) ||| gather W B ps

/-- The inverse of `gather` (spec/40_extract_fixup.md rule R154): bit `sh + t` of the field at block bit `off + t`. -/
def scatter {W : Nat} (F : BitVec W) : List Part → BitVec 128
  | [] => 0
  | p :: ps => place p.off (F.extractLsb' p.sh p.w) ||| scatter F ps

/-- `n` consecutive fields of width `w` from offset `off` (rule R101). -/
def fieldVec (B : BitVec 128) (off w n : Nat) : Vector (BitVec w) n := Vector.ofFn fun e => field B (off + e.val * w) w

/-- Consecutive fields of width `w` from offset `off`: the inverse of `fieldVec`. -/
def placeList (off : Nat) {w : Nat} : List (BitVec w) → BitVec 128
  | [] => 0
  | x :: xs => place off x ||| placeList (off + w) xs

/-! ## Format tags and prefixes -/

/-- The format a tag names (spec/10_state.md rule R33); tags 0 and 11 to 15 name none (rule R109). -/
def Format.ofTag (tag : Nibble) : Option Format :=
  match tag.toNat with
  | 1 => some .bc1
  | 2 => some .bc2
  | 3 => some .bc3
  | 4 => some .bc4u
  | 5 => some .bc4s
  | 6 => some .bc5u
  | 7 => some .bc5s
  | 8 => some .bc6hu
  | 9 => some .bc6hs
  | 10 => some .bc7
  | _ => none

/-- The tag of a format (rule R33). -/
def Format.tag : Format → Nibble
  | .bc1 => 1
  | .bc2 => 2
  | .bc3 => 3
  | .bc4u => 4
  | .bc4s => 5
  | .bc5u => 6
  | .bc5s => 7
  | .bc6hu => 8
  | .bc6hs => 9
  | .bc7 => 10

/-- `NBLK`: the block length in bytes (rule R90, spec/00_scope.md rule R6). -/
def Format.nblk : Format → Nat
  | .bc1 | .bc4u | .bc4s => 8
  | .bc2 | .bc3 | .bc5u | .bc5s | .bc6hu | .bc6hs | .bc7 => 16

/-- `bc6h_mode`, the BC6H prefix (rule R97, spec/42_bc6h.md rule R181), on `B[4:0]`: 2 bits for modes 1 and 2, else 5.
After the 2-bit tests sixteen patterns remain; the last arm is the pattern `11111`. -/
def bc6hKind (p : BitVec 5) : Bc6hKind :=
  if p.setWidth 2 = 0b00#2 then .m1
  else if p.setWidth 2 = 0b01#2 then .m2
  else
    match p.toNat with
    | 0b00010 => .m3
    | 0b00110 => .m4
    | 0b01010 => .m5
    | 0b01110 => .m6
    | 0b10010 => .m7
    | 0b10110 => .m8
    | 0b11010 => .m9
    | 0b11110 => .m10
    | 0b00011 => .m11
    | 0b00111 => .m12
    | 0b01011 => .m13
    | 0b01111 => .m14
    | 0b10011 => .rsvd13
    | 0b10111 => .rsvd17
    | 0b11011 => .rsvd1B
    | _ => .rsvd1F

/-- `bc7_mode`, the unary BC7 prefix (rule R99, spec/43_bc7.md rule R221): the lowest set bit of `B[7:0]`. -/
def bc7Kind (p : Byte) : Bc7Kind :=
  if p.getLsbD 0 then .m0
  else if p.getLsbD 1 then .m1
  else if p.getLsbD 2 then .m2
  else if p.getLsbD 3 then .m3
  else if p.getLsbD 4 then .m4
  else if p.getLsbD 5 then .m5
  else if p.getLsbD 6 then .m6
  else if p.getLsbD 7 then .m7
  else .rsvd

/-! ## BC6H layouts (spec/42_bc6h.md rules R186 to R199) -/

/-- Where the twelve endpoint fields of a two-subset mode lie. `D` is `B[81:77]` and `IDX` is `B[127:82]` in every one. -/
structure Bc6hTwoLayout where
  rW : List Part
  gW : List Part
  bW : List Part
  rX : List Part
  gX : List Part
  bX : List Part
  rY : List Part
  gY : List Part
  bY : List Part
  rZ : List Part
  gZ : List Part
  bZ : List Part
  deriving DecidableEq, Repr

/-- Where the six endpoint fields of a one-subset mode lie. `IDX` is `B[127:65]` in every one. -/
structure Bc6hOneLayout where
  rW : List Part
  gW : List Part
  bW : List Part
  rX : List Part
  gX : List Part
  bX : List Part
  deriving DecidableEq, Repr

/-- The header fields of mode 1 (spec/42_bc6h.md rule R186). -/
def bc6hM1Layout : Bc6hTwoLayout where
  rW := [⟨5, 10, 0⟩]
  gW := [⟨15, 10, 0⟩]
  bW := [⟨25, 10, 0⟩]
  rX := [⟨35, 5, 0⟩]
  gX := [⟨45, 5, 0⟩]
  bX := [⟨55, 5, 0⟩]
  rY := [⟨65, 5, 0⟩]
  gY := [⟨41, 4, 0⟩, ⟨2, 1, 4⟩]
  bY := [⟨61, 4, 0⟩, ⟨3, 1, 4⟩]
  rZ := [⟨71, 5, 0⟩]
  gZ := [⟨51, 4, 0⟩, ⟨40, 1, 4⟩]
  bZ := [⟨50, 1, 0⟩, ⟨60, 1, 1⟩, ⟨70, 1, 2⟩, ⟨76, 1, 3⟩, ⟨4, 1, 4⟩]

/-- The header fields of mode 2 (spec/42_bc6h.md rule R187). -/
def bc6hM2Layout : Bc6hTwoLayout where
  rW := [⟨5, 7, 0⟩]
  gW := [⟨15, 7, 0⟩]
  bW := [⟨25, 7, 0⟩]
  rX := [⟨35, 6, 0⟩]
  gX := [⟨45, 6, 0⟩]
  bX := [⟨55, 6, 0⟩]
  rY := [⟨65, 6, 0⟩]
  gY := [⟨41, 4, 0⟩, ⟨24, 1, 4⟩, ⟨2, 1, 5⟩]
  bY := [⟨61, 4, 0⟩, ⟨14, 1, 4⟩, ⟨22, 1, 5⟩]
  rZ := [⟨71, 6, 0⟩]
  gZ := [⟨51, 4, 0⟩, ⟨3, 2, 4⟩]
  bZ := [⟨12, 2, 0⟩, ⟨23, 1, 2⟩, ⟨32, 1, 3⟩, ⟨34, 1, 4⟩, ⟨33, 1, 5⟩]

/-- The header fields of mode 3 (spec/42_bc6h.md rule R188). -/
def bc6hM3Layout : Bc6hTwoLayout where
  rW := [⟨5, 10, 0⟩, ⟨40, 1, 10⟩]
  gW := [⟨15, 10, 0⟩, ⟨49, 1, 10⟩]
  bW := [⟨25, 10, 0⟩, ⟨59, 1, 10⟩]
  rX := [⟨35, 5, 0⟩]
  gX := [⟨45, 4, 0⟩]
  bX := [⟨55, 4, 0⟩]
  rY := [⟨65, 5, 0⟩]
  gY := [⟨41, 4, 0⟩]
  bY := [⟨61, 4, 0⟩]
  rZ := [⟨71, 5, 0⟩]
  gZ := [⟨51, 4, 0⟩]
  bZ := [⟨50, 1, 0⟩, ⟨60, 1, 1⟩, ⟨70, 1, 2⟩, ⟨76, 1, 3⟩]

/-- The header fields of mode 4 (spec/42_bc6h.md rule R189). -/
def bc6hM4Layout : Bc6hTwoLayout where
  rW := [⟨5, 10, 0⟩, ⟨39, 1, 10⟩]
  gW := [⟨15, 10, 0⟩, ⟨50, 1, 10⟩]
  bW := [⟨25, 10, 0⟩, ⟨59, 1, 10⟩]
  rX := [⟨35, 4, 0⟩]
  gX := [⟨45, 5, 0⟩]
  bX := [⟨55, 4, 0⟩]
  rY := [⟨65, 4, 0⟩]
  gY := [⟨41, 4, 0⟩, ⟨75, 1, 4⟩]
  bY := [⟨61, 4, 0⟩]
  rZ := [⟨71, 4, 0⟩]
  gZ := [⟨51, 4, 0⟩, ⟨40, 1, 4⟩]
  bZ := [⟨69, 1, 0⟩, ⟨60, 1, 1⟩, ⟨70, 1, 2⟩, ⟨76, 1, 3⟩]

/-- The header fields of mode 5 (spec/42_bc6h.md rule R190). -/
def bc6hM5Layout : Bc6hTwoLayout where
  rW := [⟨5, 10, 0⟩, ⟨39, 1, 10⟩]
  gW := [⟨15, 10, 0⟩, ⟨49, 1, 10⟩]
  bW := [⟨25, 10, 0⟩, ⟨60, 1, 10⟩]
  rX := [⟨35, 4, 0⟩]
  gX := [⟨45, 4, 0⟩]
  bX := [⟨55, 5, 0⟩]
  rY := [⟨65, 4, 0⟩]
  gY := [⟨41, 4, 0⟩]
  bY := [⟨61, 4, 0⟩, ⟨40, 1, 4⟩]
  rZ := [⟨71, 4, 0⟩]
  gZ := [⟨51, 4, 0⟩]
  bZ := [⟨50, 1, 0⟩, ⟨69, 2, 1⟩, ⟨76, 1, 3⟩, ⟨75, 1, 4⟩]

/-- The header fields of mode 6 (spec/42_bc6h.md rule R191). -/
def bc6hM6Layout : Bc6hTwoLayout where
  rW := [⟨5, 9, 0⟩]
  gW := [⟨15, 9, 0⟩]
  bW := [⟨25, 9, 0⟩]
  rX := [⟨35, 5, 0⟩]
  gX := [⟨45, 5, 0⟩]
  bX := [⟨55, 5, 0⟩]
  rY := [⟨65, 5, 0⟩]
  gY := [⟨41, 4, 0⟩, ⟨24, 1, 4⟩]
  bY := [⟨61, 4, 0⟩, ⟨14, 1, 4⟩]
  rZ := [⟨71, 5, 0⟩]
  gZ := [⟨51, 4, 0⟩, ⟨40, 1, 4⟩]
  bZ := [⟨50, 1, 0⟩, ⟨60, 1, 1⟩, ⟨70, 1, 2⟩, ⟨76, 1, 3⟩, ⟨34, 1, 4⟩]

/-- The header fields of mode 7 (spec/42_bc6h.md rule R192). -/
def bc6hM7Layout : Bc6hTwoLayout where
  rW := [⟨5, 8, 0⟩]
  gW := [⟨15, 8, 0⟩]
  bW := [⟨25, 8, 0⟩]
  rX := [⟨35, 6, 0⟩]
  gX := [⟨45, 5, 0⟩]
  bX := [⟨55, 5, 0⟩]
  rY := [⟨65, 6, 0⟩]
  gY := [⟨41, 4, 0⟩, ⟨24, 1, 4⟩]
  bY := [⟨61, 4, 0⟩, ⟨14, 1, 4⟩]
  rZ := [⟨71, 6, 0⟩]
  gZ := [⟨51, 4, 0⟩, ⟨13, 1, 4⟩]
  bZ := [⟨50, 1, 0⟩, ⟨60, 1, 1⟩, ⟨23, 1, 2⟩, ⟨33, 2, 3⟩]

/-- The header fields of mode 8 (spec/42_bc6h.md rule R193). -/
def bc6hM8Layout : Bc6hTwoLayout where
  rW := [⟨5, 8, 0⟩]
  gW := [⟨15, 8, 0⟩]
  bW := [⟨25, 8, 0⟩]
  rX := [⟨35, 5, 0⟩]
  gX := [⟨45, 6, 0⟩]
  bX := [⟨55, 5, 0⟩]
  rY := [⟨65, 5, 0⟩]
  gY := [⟨41, 4, 0⟩, ⟨24, 1, 4⟩, ⟨23, 1, 5⟩]
  bY := [⟨61, 4, 0⟩, ⟨14, 1, 4⟩]
  rZ := [⟨71, 5, 0⟩]
  gZ := [⟨51, 4, 0⟩, ⟨40, 1, 4⟩, ⟨33, 1, 5⟩]
  bZ := [⟨13, 1, 0⟩, ⟨60, 1, 1⟩, ⟨70, 1, 2⟩, ⟨76, 1, 3⟩, ⟨34, 1, 4⟩]

/-- The header fields of mode 9 (spec/42_bc6h.md rule R194). -/
def bc6hM9Layout : Bc6hTwoLayout where
  rW := [⟨5, 8, 0⟩]
  gW := [⟨15, 8, 0⟩]
  bW := [⟨25, 8, 0⟩]
  rX := [⟨35, 5, 0⟩]
  gX := [⟨45, 5, 0⟩]
  bX := [⟨55, 6, 0⟩]
  rY := [⟨65, 5, 0⟩]
  gY := [⟨41, 4, 0⟩, ⟨24, 1, 4⟩]
  bY := [⟨61, 4, 0⟩, ⟨14, 1, 4⟩, ⟨23, 1, 5⟩]
  rZ := [⟨71, 5, 0⟩]
  gZ := [⟨51, 4, 0⟩, ⟨40, 1, 4⟩]
  bZ := [⟨50, 1, 0⟩, ⟨13, 1, 1⟩, ⟨70, 1, 2⟩, ⟨76, 1, 3⟩, ⟨34, 1, 4⟩, ⟨33, 1, 5⟩]

/-- The header fields of mode 10 (spec/42_bc6h.md rule R195). -/
def bc6hM10Layout : Bc6hTwoLayout where
  rW := [⟨5, 6, 0⟩]
  gW := [⟨15, 6, 0⟩]
  bW := [⟨25, 6, 0⟩]
  rX := [⟨35, 6, 0⟩]
  gX := [⟨45, 6, 0⟩]
  bX := [⟨55, 6, 0⟩]
  rY := [⟨65, 6, 0⟩]
  gY := [⟨41, 4, 0⟩, ⟨24, 1, 4⟩, ⟨21, 1, 5⟩]
  bY := [⟨61, 4, 0⟩, ⟨14, 1, 4⟩, ⟨22, 1, 5⟩]
  rZ := [⟨71, 6, 0⟩]
  gZ := [⟨51, 4, 0⟩, ⟨11, 1, 4⟩, ⟨31, 1, 5⟩]
  bZ := [⟨12, 2, 0⟩, ⟨23, 1, 2⟩, ⟨32, 1, 3⟩, ⟨34, 1, 4⟩, ⟨33, 1, 5⟩]

/-- The header fields of mode 11 (spec/42_bc6h.md rule R196). -/
def bc6hM11Layout : Bc6hOneLayout where
  rW := [⟨5, 10, 0⟩]
  gW := [⟨15, 10, 0⟩]
  bW := [⟨25, 10, 0⟩]
  rX := [⟨35, 10, 0⟩]
  gX := [⟨45, 10, 0⟩]
  bX := [⟨55, 10, 0⟩]

/-- The header fields of mode 12 (spec/42_bc6h.md rule R197). -/
def bc6hM12Layout : Bc6hOneLayout where
  rW := [⟨5, 10, 0⟩, ⟨44, 1, 10⟩]
  gW := [⟨15, 10, 0⟩, ⟨54, 1, 10⟩]
  bW := [⟨25, 10, 0⟩, ⟨64, 1, 10⟩]
  rX := [⟨35, 9, 0⟩]
  gX := [⟨45, 9, 0⟩]
  bX := [⟨55, 9, 0⟩]

/-- The header fields of mode 13 (spec/42_bc6h.md rule R198). -/
def bc6hM13Layout : Bc6hOneLayout where
  rW := [⟨5, 10, 0⟩, ⟨44, 1, 10⟩, ⟨43, 1, 11⟩]
  gW := [⟨15, 10, 0⟩, ⟨54, 1, 10⟩, ⟨53, 1, 11⟩]
  bW := [⟨25, 10, 0⟩, ⟨64, 1, 10⟩, ⟨63, 1, 11⟩]
  rX := [⟨35, 8, 0⟩]
  gX := [⟨45, 8, 0⟩]
  bX := [⟨55, 8, 0⟩]

/-- The header fields of mode 14 (spec/42_bc6h.md rule R199). -/
def bc6hM14Layout : Bc6hOneLayout where
  rW := [⟨5, 10, 0⟩, ⟨44, 1, 10⟩, ⟨43, 1, 11⟩, ⟨42, 1, 12⟩, ⟨41, 1, 13⟩, ⟨40, 1, 14⟩, ⟨39, 1, 15⟩]
  gW := [⟨15, 10, 0⟩, ⟨54, 1, 10⟩, ⟨53, 1, 11⟩, ⟨52, 1, 12⟩, ⟨51, 1, 13⟩, ⟨50, 1, 14⟩, ⟨49, 1, 15⟩]
  bW := [⟨25, 10, 0⟩, ⟨64, 1, 10⟩, ⟨63, 1, 11⟩, ⟨62, 1, 12⟩, ⟨61, 1, 13⟩, ⟨60, 1, 14⟩, ⟨59, 1, 15⟩]
  rX := [⟨35, 4, 0⟩]
  gX := [⟨45, 4, 0⟩]
  bX := [⟨55, 4, 0⟩]

/-- The fields of a two-subset block (rules R183, R185). -/
def bc6hTwoOfBlock (L : Bc6hTwoLayout) {w x y z : Nat} (B : BitVec 128) : Bc6hTwo w x y z where
  rW := gather w B L.rW
  gW := gather w B L.gW
  bW := gather w B L.bW
  rX := gather x B L.rX
  gX := gather y B L.gX
  bX := gather z B L.bX
  rY := gather x B L.rY
  gY := gather y B L.gY
  bY := gather z B L.bY
  rZ := gather x B L.rZ
  gZ := gather y B L.gZ
  bZ := gather z B L.bZ
  d := field B 77 5
  idx := field B 82 46

/-- The fields of a one-subset block (rules R183, R185). -/
def bc6hOneOfBlock (L : Bc6hOneLayout) {w x : Nat} (B : BitVec 128) : Bc6hOne w x where
  rW := gather w B L.rW
  gW := gather w B L.gW
  bW := gather w B L.bW
  rX := gather x B L.rX
  gX := gather x B L.gX
  bX := gather x B L.bX
  idx := field B 65 63

/-- The two-subset block with these fields and this prefix. -/
def bc6hTwoBlock (L : Bc6hTwoLayout) {w x y z : Nat} (pre : BitVec 128) (f : Bc6hTwo w x y z) : BitVec 128 :=
  pre ||| scatter f.rW L.rW ||| scatter f.gW L.gW ||| scatter f.bW L.bW
    ||| scatter f.rX L.rX ||| scatter f.gX L.gX ||| scatter f.bX L.bX
    ||| scatter f.rY L.rY ||| scatter f.gY L.gY ||| scatter f.bY L.bY
    ||| scatter f.rZ L.rZ ||| scatter f.gZ L.gZ ||| scatter f.bZ L.bZ
    ||| place 77 f.d ||| place 82 f.idx

/-- The one-subset block with these fields and this prefix. -/
def bc6hOneBlock (L : Bc6hOneLayout) {w x : Nat} (pre : BitVec 128) (f : Bc6hOne w x) : BitVec 128 :=
  pre ||| scatter f.rW L.rW ||| scatter f.gW L.gW ||| scatter f.bW L.bW
    ||| scatter f.rX L.rX ||| scatter f.gX L.gX ||| scatter f.bX L.bX ||| place 65 f.idx

/-! ## BC7 layouts (rule R101: the fields follow each other without gaps) -/

/-- The fields of a BC7 block of mode `m`: prefix, PART, ROT, ISEL, red, green, blue, alpha components, P-bits, IDX,
IDX2, in this order from bit 0 upward (rule R101; spec/43_bc7.md rules R224 to R231). -/
def bc7OfBlock (m : Nat) {part rot isel ne col alpha np ix ix2 : Nat} (B : BitVec 128) :
    Bc7Fields part rot isel ne col alpha np ix ix2 where
  part := field B (m + 1) part
  rot := field B (m + 1 + part) rot
  isel := field B (m + 1 + part + rot) isel
  r := fieldVec B (m + 1 + part + rot + isel) col ne
  g := fieldVec B (m + 1 + part + rot + isel + ne * col) col ne
  b := fieldVec B (m + 1 + part + rot + isel + 2 * (ne * col)) col ne
  a := fieldVec B (m + 1 + part + rot + isel + 3 * (ne * col)) alpha ne
  p := fieldVec B (m + 1 + part + rot + isel + 3 * (ne * col) + ne * alpha) 1 np
  idx := field B (m + 1 + part + rot + isel + 3 * (ne * col) + ne * alpha + np) ix
  idx2 := field B (m + 1 + part + rot + isel + 3 * (ne * col) + ne * alpha + np + ix) ix2

/-- The BC7 block of mode `m` with these fields: the inverse of `bc7OfBlock`; the prefix is one set bit at `m`. -/
def bc7Block (m : Nat) {part rot isel ne col alpha np ix ix2 : Nat} (f : Bc7Fields part rot isel ne col alpha np ix ix2) :
    BitVec 128 :=
  place m (1 : BitVec 1) ||| place (m + 1) f.part ||| place (m + 1 + part) f.rot ||| place (m + 1 + part + rot) f.isel
    ||| placeList (m + 1 + part + rot + isel) f.r.toList
    ||| placeList (m + 1 + part + rot + isel + ne * col) f.g.toList
    ||| placeList (m + 1 + part + rot + isel + 2 * (ne * col)) f.b.toList
    ||| placeList (m + 1 + part + rot + isel + 3 * (ne * col)) f.a.toList
    ||| placeList (m + 1 + part + rot + isel + 3 * (ne * col) + ne * alpha) f.p.toList
    ||| place (m + 1 + part + rot + isel + 3 * (ne * col) + ne * alpha + np) f.idx
    ||| place (m + 1 + part + rot + isel + 3 * (ne * col) + ne * alpha + np + ix) f.idx2

/-! ## The decoder -/

/-- Step 2 of the dispatch for BC6H (rule R107): every pattern is exactly one block kind (spec/42_bc6h.md rule R203). -/
def decodeBc6h (B : BitVec 128) : Instr :=
  match bc6hKind (field B 0 5) with
  | .m1 => .bc6hM1 (bc6hTwoOfBlock bc6hM1Layout B)
  | .m2 => .bc6hM2 (bc6hTwoOfBlock bc6hM2Layout B)
  | .m3 => .bc6hM3 (bc6hTwoOfBlock bc6hM3Layout B)
  | .m4 => .bc6hM4 (bc6hTwoOfBlock bc6hM4Layout B)
  | .m5 => .bc6hM5 (bc6hTwoOfBlock bc6hM5Layout B)
  | .m6 => .bc6hM6 (bc6hTwoOfBlock bc6hM6Layout B)
  | .m7 => .bc6hM7 (bc6hTwoOfBlock bc6hM7Layout B)
  | .m8 => .bc6hM8 (bc6hTwoOfBlock bc6hM8Layout B)
  | .m9 => .bc6hM9 (bc6hTwoOfBlock bc6hM9Layout B)
  | .m10 => .bc6hM10 (bc6hTwoOfBlock bc6hM10Layout B)
  | .m11 => .bc6hM11 (bc6hOneOfBlock bc6hM11Layout B)
  | .m12 => .bc6hM12 (bc6hOneOfBlock bc6hM12Layout B)
  | .m13 => .bc6hM13 (bc6hOneOfBlock bc6hM13Layout B)
  | .m14 => .bc6hM14 (bc6hOneOfBlock bc6hM14Layout B)
  | .rsvd13 => .bc6hRsvd13 (field B 5 123)
  | .rsvd17 => .bc6hRsvd17 (field B 5 123)
  | .rsvd1B => .bc6hRsvd1B (field B 5 123)
  | .rsvd1F => .bc6hRsvd1F (field B 5 123)

/-- Step 2 of the dispatch for BC7 (rule R107): every pattern is exactly one block kind (spec/43_bc7.md rule R237). -/
def decodeBc7 (B : BitVec 128) : Instr :=
  match bc7Kind (field B 0 8) with
  | .m0 => .bc7M0 (bc7OfBlock 0 B)
  | .m1 => .bc7M1 (bc7OfBlock 1 B)
  | .m2 => .bc7M2 (bc7OfBlock 2 B)
  | .m3 => .bc7M3 (bc7OfBlock 3 B)
  | .m4 => .bc7M4 (bc7OfBlock 4 B)
  | .m5 => .bc7M5 (bc7OfBlock 5 B)
  | .m6 => .bc7M6 (bc7OfBlock 6 B)
  | .m7 => .bc7M7 (bc7OfBlock 7 B)
  | .rsvd => .bc7Rsvd (field B 8 120)

/-- Step 1 of the dispatch (rule R107): the layouts of rules R92 to R96 for the formats without a mode prefix. -/
def decodeBits (fmt : Format) (B : BitVec 128) : Instr :=
  match fmt with
  | .bc1 => .bc1 (field B 0 16) (field B 16 16) (field B 32 32)
  | .bc2 => .bc2 (field B 0 64) (field B 64 16) (field B 80 16) (field B 96 32)
  | .bc3 => .bc3 (field B 0 8) (field B 8 8) (field B 16 48) (field B 64 16) (field B 80 16) (field B 96 32)
  | .bc4u => .bc4u (field B 0 8) (field B 8 8) (field B 16 48)
  | .bc4s => .bc4s (field B 0 8) (field B 8 8) (field B 16 48)
  | .bc5u => .bc5u (field B 0 8) (field B 8 8) (field B 16 48) (field B 64 8) (field B 72 8) (field B 80 48)
  | .bc5s => .bc5s (field B 0 8) (field B 8 8) (field B 16 48) (field B 64 8) (field B 72 8) (field B 80 48)
  | .bc6hu | .bc6hs => decodeBc6h B
  | .bc7 => decodeBc7 B

/-- The instruction a block's bytes hold under a format tag (rules R90, R107, R109). -/
def decodeBlock (tag : Nibble) (bytes : List Byte) : Except Reject Instr :=
  match Format.ofTag tag with
  | none => .error .unsupportedFormat
  | some fmt => if bytes.length = fmt.nblk then .ok (decodeBits fmt (blockOfBytes bytes)) else .error .wrongLength

/-- The command a code stands for (rule R110; spec/46_commands.md rule R310): every code stands for one row. -/
def decodeCommand (code : Nibble) : Instr :=
  match code.toNat with
  | 0 => .cmdIllegal0
  | 1 => .classify
  | 2 => .decode
  | 3 => .stats
  | 4 => .extract
  | 5 => .sext
  | 6 => .fixup
  | 7 => .isfix
  | _ => .cmdIllegal8to15 code

/-- The decoder: total on any bytes from either source. A command is the low 4 bits of the one byte written to `CR.CMD`
(spec/46_commands.md rule R310: bits above them are ignored). -/
def decodeInstr (src : Source) (bytes : List Byte) : Except Reject Instr :=
  match src with
  | .command =>
    match bytes with
    | [b] => .ok (decodeCommand (b.setWidth 4))
    | _ => .error .wrongLength
  | .block tag => decodeBlock tag bytes

/-! ## The encoder -/

/-- The block of a block kind as an integer, and its length in bytes; `none` for a command. -/
def encodeBits : Instr → Option (Nat × BitVec 128)
  | .bc1 c0 c1 idx => some (8, place 0 c0 ||| place 16 c1 ||| place 32 idx)
  | .bc2 abm c0 c1 idx => some (16, place 0 abm ||| place 64 c0 ||| place 80 c1 ||| place 96 idx)
  | .bc3 a0 a1 aidx c0 c1 idx =>
    some (16, place 0 a0 ||| place 8 a1 ||| place 16 aidx ||| place 64 c0 ||| place 80 c1 ||| place 96 idx)
  | .bc4u e0 e1 idx => some (8, place 0 e0 ||| place 8 e1 ||| place 16 idx)
  | .bc4s e0 e1 idx => some (8, place 0 e0 ||| place 8 e1 ||| place 16 idx)
  | .bc5u ue0 ue1 uidx ve0 ve1 vidx =>
    some (16, place 0 ue0 ||| place 8 ue1 ||| place 16 uidx ||| place 64 ve0 ||| place 72 ve1 ||| place 80 vidx)
  | .bc5s ue0 ue1 uidx ve0 ve1 vidx =>
    some (16, place 0 ue0 ||| place 8 ue1 ||| place 16 uidx ||| place 64 ve0 ||| place 72 ve1 ||| place 80 vidx)
  | .bc6hM1 f => some (16, bc6hTwoBlock bc6hM1Layout 0x00 f)
  | .bc6hM2 f => some (16, bc6hTwoBlock bc6hM2Layout 0x01 f)
  | .bc6hM3 f => some (16, bc6hTwoBlock bc6hM3Layout 0x02 f)
  | .bc6hM4 f => some (16, bc6hTwoBlock bc6hM4Layout 0x06 f)
  | .bc6hM5 f => some (16, bc6hTwoBlock bc6hM5Layout 0x0A f)
  | .bc6hM6 f => some (16, bc6hTwoBlock bc6hM6Layout 0x0E f)
  | .bc6hM7 f => some (16, bc6hTwoBlock bc6hM7Layout 0x12 f)
  | .bc6hM8 f => some (16, bc6hTwoBlock bc6hM8Layout 0x16 f)
  | .bc6hM9 f => some (16, bc6hTwoBlock bc6hM9Layout 0x1A f)
  | .bc6hM10 f => some (16, bc6hTwoBlock bc6hM10Layout 0x1E f)
  | .bc6hM11 f => some (16, bc6hOneBlock bc6hM11Layout 0x03 f)
  | .bc6hM12 f => some (16, bc6hOneBlock bc6hM12Layout 0x07 f)
  | .bc6hM13 f => some (16, bc6hOneBlock bc6hM13Layout 0x0B f)
  | .bc6hM14 f => some (16, bc6hOneBlock bc6hM14Layout 0x0F f)
  | .bc6hRsvd13 rest => some (16, 0x13 ||| place 5 rest)
  | .bc6hRsvd17 rest => some (16, 0x17 ||| place 5 rest)
  | .bc6hRsvd1B rest => some (16, 0x1B ||| place 5 rest)
  | .bc6hRsvd1F rest => some (16, 0x1F ||| place 5 rest)
  | .bc7M0 f => some (16, bc7Block 0 f)
  | .bc7M1 f => some (16, bc7Block 1 f)
  | .bc7M2 f => some (16, bc7Block 2 f)
  | .bc7M3 f => some (16, bc7Block 3 f)
  | .bc7M4 f => some (16, bc7Block 4 f)
  | .bc7M5 f => some (16, bc7Block 5 f)
  | .bc7M6 f => some (16, bc7Block 6 f)
  | .bc7M7 f => some (16, bc7Block 7 f)
  | .bc7Rsvd rest => some (16, place 8 rest)
  | .classify | .decode | .stats | .extract | .sext | .fixup | .isfix | .cmdIllegal0 | .cmdIllegal8to15 _ => none

/-- The code of a command (rule R110); 0 for a block kind, which has none. -/
def commandCode : Instr → Nibble
  | .classify => 1
  | .decode => 2
  | .stats => 3
  | .extract => 4
  | .sext => 5
  | .fixup => 6
  | .isfix => 7
  | .cmdIllegal0 => 0
  | .cmdIllegal8to15 code => code
  | .bc1 .. | .bc2 .. | .bc3 .. | .bc4u .. | .bc4s .. | .bc5u .. | .bc5s ..
  | .bc6hM1 _ | .bc6hM2 _ | .bc6hM3 _ | .bc6hM4 _ | .bc6hM5 _ | .bc6hM6 _ | .bc6hM7 _
  | .bc6hM8 _ | .bc6hM9 _ | .bc6hM10 _ | .bc6hM11 _ | .bc6hM12 _ | .bc6hM13 _ | .bc6hM14 _
  | .bc6hRsvd13 _ | .bc6hRsvd17 _ | .bc6hRsvd1B _ | .bc6hRsvd1F _
  | .bc7M0 _ | .bc7M1 _ | .bc7M2 _ | .bc7M3 _ | .bc7M4 _ | .bc7M5 _ | .bc7M6 _ | .bc7M7 _ | .bc7Rsvd _ => 0

/-- The encoder: the bytes of an instruction in ascending address order. A command is one byte, its code. -/
def encode (i : Instr) : List Byte :=
  match encodeBits i with
  | some (n, B) => bytesOfBlock n B
  | none => [(commandCode i).setWidth 8]

/-- The format tags under which an instruction is selected (the `tags` of spec/opcode_table.json); a command has none. -/
def tagsOf : Instr → List Nibble
  | .bc1 .. => [1]
  | .bc2 .. => [2]
  | .bc3 .. => [3]
  | .bc4u .. => [4]
  | .bc4s .. => [5]
  | .bc5u .. => [6]
  | .bc5s .. => [7]
  | .bc6hM1 _ | .bc6hM2 _ | .bc6hM3 _ | .bc6hM4 _ | .bc6hM5 _ | .bc6hM6 _ | .bc6hM7 _
  | .bc6hM8 _ | .bc6hM9 _ | .bc6hM10 _ | .bc6hM11 _ | .bc6hM12 _ | .bc6hM13 _ | .bc6hM14 _
  | .bc6hRsvd13 _ | .bc6hRsvd17 _ | .bc6hRsvd1B _ | .bc6hRsvd1F _ => [8, 9]
  | .bc7M0 _ | .bc7M1 _ | .bc7M2 _ | .bc7M3 _ | .bc7M4 _ | .bc7M5 _ | .bc7M6 _ | .bc7M7 _ | .bc7Rsvd _ => [10]
  | .classify | .decode | .stats | .extract | .sext | .fixup | .isfix | .cmdIllegal0 | .cmdIllegal8to15 _ => []

/-- Where an instruction's bits come from: a command from `CR.CMD`, a block kind from the buffer under one of its tags. -/
def sourcesOf (i : Instr) : List Source :=
  match tagsOf i with
  | [] => [.command]
  | tags => tags.map .block

/-! ## Reading a word of the opcode table -/

/-- The low byte of a word can only be that of a BC7 row, or is better read as one, when the tag is not told. -/
def bc7TableByte (b : Nat) : Bool :=
  b == 0x10 || b == 0x20 || b == 0x40 || b == 0x80

/-- Which source a word of spec/opcode_table.json is read under. DESIGN CHOICE, log entry 11: a row's tag is not among
its bits, so several rows share a word. Words of up to 8 bits that are at most 9, 0x0C or 0x0D are read as commands, words
with a BC7 prefix of a row as BC7, other words as BC6H, and 64-bit words as BC1. -/
def tableSource (nbits w : Nat) : Source :=
  if nbits ≤ 8 then
    if w ≤ 9 || w == 0xC || w == 0xD then .command
    else if bc7TableByte w then .block 10
    else .block 8
  else if nbits = 64 then .block 1
  else if bc7TableByte (w % 256) || w % 256 == 4 || w % 256 == 8 then .block 10
  else .block 8

/-- The instruction the decoder reads from an instruction of the opcode table whose bits are `w`: the bytes of the block,
or the byte written to `CR.CMD`, are given to `decodeInstr`. -/
def decodeTableWord (nbits w : Nat) : Option Instr :=
  let bytes :=
    match tableSource nbits w with
    | .command => [BitVec.ofNat 8 w]
    | .block tag =>
      match Format.ofTag tag with
      | some fmt => bytesOfBlock fmt.nblk (BitVec.ofNat 128 w)
      | none => []
  (decodeInstr (tableSource nbits w) bytes).toOption

end Sys2Proof
end

