-- ==== Sys2Proof/Machine/Ops.lean ====
section
/-!
DEFINITION. The named operations over memory and registers: the buffer space, the host's register accesses, the start
and the end of a command, and ERROR ENTRY as one shared operation (`raiseError`).
-/

namespace Sys2Proof.Machine

/-! ## The buffer space (spec/20_memory.md) -/

/-- The addresses of the entries rise strictly from `lo` on and are below 2^64. -/
def Memory.sortedFrom : Nat → Memory → Bool
  | _, [] => true
  | lo, c :: cs => decide (lo ≤ c.1) && decide (c.1 < 2 ^ 64) && Memory.sortedFrom (c.1 + 1) cs

/-- The canonical form of the buffer memory: strictly rising 64-bit addresses. An unlisted address holds no loaded byte
(log entry 2), so no entry can equal what an unlisted address holds. -/
def Memory.wf (m : Memory) : Bool := Memory.sortedFrom 0 m

/-- The byte loaded at address `a`, if any. -/
def Memory.get? : Memory → Nat → Option Byte
  | [], _ => none
  | c :: cs, a => if c.1 = a then some c.2 else Memory.get? cs a

/-- Load byte `b` at address `a`, keeping the canonical form. -/
def Memory.set (a : Nat) (b : Byte) : Memory → Memory
  | [] => [(a, b)]
  | c :: cs => if a < c.1 then (a, b) :: c :: cs else if a = c.1 then (a, b) :: cs else c :: Memory.set a b cs

/-- `byte(addr)` (rule R60). An address nothing has loaded reads as a free value (rule R68, entry U5, log entry 2). -/
def memByte (m : Memory) (addr : Word64) : Byte := (Memory.get? m addr.toNat).getD (Config.unloadedByte addr)

/-- The `n` bytes from `addr` upward, addresses modulo 2^64 (rules R60, R64, R65). -/
def memBytes (m : Memory) (addr : Word64) : Nat → List Byte
  | 0 => []
  | n + 1 => memByte m addr :: memBytes m (addr + 1) n

/-- `MemRead(addr, n)` (rule R60; spec/00_scope.md rule R9). -/
def memRead (m : Memory) (addr : Word64) (n : Nat) : Nat := leNat (memBytes m addr n)

/-- The host loads bytes from `addr` upward (rule R70), addresses modulo 2^64. -/
def memStore (m : Memory) (addr : Word64) : List Byte → Memory
  | [] => m
  | b :: bs => memStore (Memory.set addr.toNat b m) (addr + 1) bs

/-! ## Addresses and bounds -/

/-- The block address (rule R62), modulo 2^64. -/
def blockAddr (cr : CtrlRegs) (n bY bX : Nat) : Word64 :=
  BitVec.ofNat 64 (cr.base.toNat + bY * cr.pitch.toNat + bX * n)

/-- The pixel address (rule R63), modulo 2^64. -/
def pixelAddr (cr : CtrlRegs) (y x : Nat) : Word64 :=
  BitVec.ofNat 64 (cr.base.toNat + 16 * (y * cr.width.toNat + x))

/-- `nrows` (spec/10_state.md rule R29). -/
def nrows (cr : CtrlRegs) : Nat := cr.height.toNat / 4

/-- `ncols` (spec/10_state.md rule R29): by the width, or by the pitch where the open parameter `COLBOUND` says so. -/
def ncols (p : Params) (cr : CtrlRegs) (n : Nat) : Nat :=
  match p.colBound with
  | .width => cr.width.toNat / 4
  | .pitch => (cr.pitch.toNat + n - 1) / n

/-- The block length the format tag gives, where the tag is supported (spec/30_encoding.md rules R90, R109). -/
def nblk? (cr : CtrlRegs) : Option Nat := (Format.ofTag cr.fmt).map Format.nblk

/-! ## Error entry, command start and command end -/

/-- `raise E(EINFO = x)`, ERROR ENTRY (spec/60_exceptions.md rule R345): `STATUS.ERR`, `EINFO` and `PHASE`, nothing else. -/
def raiseError (e : ErrCode) (x : Word64) (s : State) : State :=
  { s with einfo := x, status := { s.status with phase := .terminal, err := e } }

/-- The command-start actions (spec/46_commands.md rule R310): they also leave an earlier error (rule R350, the core's
return from an error). -/
def startCommand (code : Nibble) (s : State) : State :=
  { s with crCmd := none, einfo := 0, hs := { s.hs with cmd := code }, status := { s.status with phase := .run, err := .none } }

/-- The end of a command that completed (spec/46_commands.md rule R310): `PHASE <- TERMINAL`. -/
def endCommand (s : State) : State := { s with status := { s.status with phase := .terminal } }

/-- Every command meaning: refused while a command runs (entry U12), else started and then carried out. -/
def runCommand (code : Nibble) (act : State → State) (s : State) : Host.Outcome State Fault Refusal :=
  if s.status.phase = .run then .refused .commandDuringRun else .next (act (startCommand code s))

/-- `STATUS.HISTV <- v`. -/
def setHistv (v : Bool) (s : State) : State := { s with status := { s.status with histv := v } }

/-- `STATUS.STATV <- v`. -/
def setStatv (v : Bool) (s : State) : State := { s with status := { s.status with statv := v } }

/-- `STATUS.DECV <- v`. -/
def setDecv (v : Bool) (s : State) : State := { s with status := { s.status with decv := v } }

/-- `STATUS.XV <- v`. -/
def setXv (v : Bool) (s : State) : State := { s with status := { s.status with xv := v } }

/-- The end of EXTRACT, SEXT, FIXUP and ISFIX: `XRES <- v`, `STATUS.XV <- 1` and the end of the command. -/
def finishX (v : Word64) (s : State) : State := endCommand (setXv true { s with xres := v })

/-- `cur <- (by, bx)` (spec/00_scope.md rule R9). -/
def setCursor (bY bX : Word64) (s : State) : State := { s with hs := { s.hs with bY := bY, bX := bX } }

/-- `HS.STEP <- h`. -/
def setHStep (h : HStep) (s : State) : State := { s with hs := { s.hs with step := h } }

/-! ## The host's register accesses (spec/10_state.md, spec/46_commands.md rule R319) -/

/-- The number of `STATUS.PHASE` (rule R36). -/
def Phase.code : Phase → Nat
  | .none => 0
  | .run => 1
  | .terminal => 2

/-- The number of `STATUS.ERR` (spec/60_exceptions.md rule R340). -/
def ErrCode.code : ErrCode → Nat
  | .none => 0
  | .unsupportedFormat => 1
  | .reservedModeEncountered => 2
  | .dimensionMismatch => 3
  | .emptyInput => 4
  | .nullBuffer => 5
  | .illegalOperand => 6

/-- `STATUS` as the 64-bit value the host reads (rule R36). -/
def Status.toWord (t : Status) : Word64 :=
  BitVec.ofNat 64 (t.phase.code + 16 * t.err.code + 256 * t.histv.toNat + 512 * t.statv.toNat + 1024 * t.decv.toNat
    + 2048 * t.xv.toNat)

/-- An `ST` register of index `k` in 0 to 25, register number `32 + k` (rule R42). -/
def statReg (st : StatRegs) (k : Nat) : Word64 :=
  if k < 4 then (st.min.toList.getD k 0).setWidth 64
  else if k < 8 then (st.max.toList.getD (k - 4) 0).setWidth 64
  else if k < 12 then (st.avg.toList.getD (k - 8) 0).setWidth 64
  else if k < 16 then (st.var.toList.getD (k - 12) 0).setWidth 64
  else if k < 20 then (st.sd.toList.getD (k - 16) 0).setWidth 64
  else if k = 20 then st.maxlum.setWidth 64
  else if k < 25 then st.special.toList.getD (k - 21) 0
  else st.npix

/-- A component of an endpoint register file, index `k = 4e + c` (rule R22). -/
def endpointReg (v : Vector (Vector (BitVec 16) 4) 6) (k : Nat) : Word64 :=
  ((v.toList.getD (k / 4) (Vector.replicate 4 0)).toList.getD (k % 4) 0).setWidth 64

/-- A `DR` register by its number, 64 to 191 (rule R22); a number in between that names no register reads 0 (rule R39). -/
def decodeReg (d : DecodeResult) (n : Nat) : Word64 :=
  if n = 64 then d.mode.setWidth 64
  else if n = 65 then d.ns.setWidth 64
  else if n = 66 then d.shape.setWidth 64
  else if n = 67 then d.rot.setWidth 64
  else if n = 68 then d.isel.setWidth 64
  else if n = 69 then d.sub.setWidth 64
  else if n = 70 then d.ndiv.setWidth 64
  else if n < 71 then 0
  else if n < 73 then (d.c565.toList.getD (n - 71) 0).setWidth 64
  else if n < 80 then 0
  else if n < 104 then endpointReg d.epraw (n - 80)
  else if n < 112 then 0
  else if n < 136 then endpointReg d.ep (n - 112)
  else if n < 144 then 0
  else if n < 150 then (d.pb.toList.getD (n - 144) 0).setWidth 64
  else if n < 160 then 0
  else if n < 176 then (d.ix0.toList.getD (n - 160) 0).setWidth 64
  else if n < 192 then (d.ix1.toList.getD (n - 176) 0).setWidth 64
  else 0

/-- What the host reads from register `n` (rules R22, R33 to R42): `CR.CMD` reads 0 (rule R35), as does every number that
names no register (rule R39). -/
def readReg (s : State) (n : Nat) : Word64 :=
  match n with
  | 0 => s.cr.fmt.setWidth 64
  | 1 => s.cr.width
  | 2 => s.cr.height
  | 3 => s.cr.pitch
  | 4 => s.cr.base
  | 5 => s.cr.bX
  | 6 => s.cr.bY
  | 7 => s.cr.op0
  | 8 => s.cr.op1
  | 9 => s.cr.op2
  | 10 => 0
  | 11 => s.status.toWord
  | 12 => s.xres
  | 13 => s.einfo
  | n =>
    if n < 16 then 0
    else if n = 16 then s.total
    else if n < 32 then s.hist.toList.getD (n - 17) 0
    else if n < 58 then statReg s.st (n - 32)
    else decodeReg s.dr n

/-- The descriptor registers after the host's write of `v` to register `n` (rules R33, R34): no other number is one. -/
def CtrlRegs.write (cr : CtrlRegs) (n : Nat) (v : Word64) : CtrlRegs :=
  match n with
  | 0 => { cr with fmt := v.setWidth 4 }
  | 1 => { cr with width := v }
  | 2 => { cr with height := v }
  | 3 => { cr with pitch := v }
  | 4 => { cr with base := v }
  | 5 => { cr with bX := v }
  | 6 => { cr with bY := v }
  | 7 => { cr with op0 := v }
  | 8 => { cr with op1 := v }
  | 9 => { cr with op2 := v }
  | _ => cr

/-- The host's write of `v` to register `n` (rules R35, R39; spec/46_commands.md rules R310, R319): a descriptor register
stores the value, `CR.CMD` makes the command of `v[3:0]` pending, every other number ignores the write. -/
def hostWrite (n : Nat) (v : Word64) (s : State) : State :=
  if n = 10 then { s with crCmd := some (v.setWidth 4) } else { s with cr := s.cr.write n v }

/-- The host's read of register `n` (rule R319): it changes no register. The value goes to the model's own `readData`
(log entry 13). -/
def hostRead (n : Nat) (s : State) : State := { s with readData := readReg s n }

/-- The host's load of bytes into the buffer between commands (rule R70). -/
def hostStore (addr : Word64) (bytes : List Byte) (s : State) : State := { s with mem := memStore s.mem addr bytes }

/-- Reset as applied to a running machine (spec/70_reset_and_hazards.md rule R370): every register as in `State.reset`;
the buffer memory, the constants and what the host has yet to do are unaffected. -/
def applyReset (s : State) : State :=
  { State.reset with mem := s.mem, params := s.params, inbox := s.inbox, readData := s.readData }

end Sys2Proof.Machine
end

