-- ==== Sys2Proof/Machine/Pass.lean ====
section
/-!
DEFINITION. The classification pass as the state machine of spec/44_classifier.md rule R266 over DISPATCH and ACCUM
(rules R252, R253; spec/10_state.md rules R30, R45), and what a fetched block does, shared by every block kind: its
dispatch in a CLASSIFY pass, its delivery under DECODE (spec/46_commands.md rule R313).
-/

namespace Sys2Proof.Machine

/-- DISPATCH to ACCUM (rules R253, R266): the block at the cursor has been fetched and its list of buckets computed. -/
def dispatchBlock (bs : List (Fin 15)) (s : State) : State := setHStep .accum { s with buckets := bs }

/-- One bucket incremented, modulo 2^64 (spec/10_state.md rule R40). -/
def bumpBucket (h : Vector Word64 15) (k : Fin 15) : Vector Word64 15 := h.set k.val (h[k.val] + 1)

/-- The increments of ACCUM (rule R253): every bucket of the block's list and `TOTAL`, modulo 2^64. -/
def accumulate (s : State) : State :=
  { s with hist := s.buckets.foldl bumpBucket s.hist, total := s.total + 1, buckets := [] }

/-- The buffer is exhausted, or not (rule R266, log entry 7). -/
def setExhausted (v : Bool) (s : State) : State := { s with exhausted := v }

/-- Cursor advance (spec/10_state.md rule R30) in an image of `nr` rows of `nc` blocks: the next column, the next row, or
past the last block, on which the cursor rests (log entry 7). -/
def advance (nr nc : Nat) (s : State) : State :=
  if s.hs.bX.toNat + 1 < nc then setCursor s.hs.bY (s.hs.bX + 1) s
  else if s.hs.bY.toNat + 1 < nr then setCursor (s.hs.bY + 1) 0 s
  else setExhausted true s

/-- The bounds of the walk of a CLASSIFY pass (spec/10_state.md rule R29); no block lies in it under an unsupported tag. -/
def walkCols (s : State) : Nat := ncols s.params s.cr ((nblk? s.cr).getD 1)

/-- ACCUM to DISPATCH (rule R266): the increments, then the cursor's advance. -/
def accumStep (s : State) : State := setHStep .dispatch (advance (nrows s.cr) (walkCols s) (accumulate s))

/-- Pass end (rule R252), from DISPATCH with the buffer exhausted (rule R266). -/
def endPass (s : State) : State := endCommand (setHistv true (setExhausted false s))

/-- The end of a DECODE that delivers `d`: every `DR` register at once (spec/10_state.md rule R24), `STATUS.DECV <- 1`,
the end of the command (spec/46_commands.md rule R313). -/
def deliver (d : DecodeResult) (s : State) : State := endCommand (setDecv true { s with dr := d })

/-- A fetched block: dispatched under CLASSIFY, handed to `onDecode` under DECODE; nothing else fetches a block to execute
it (spec/20_memory.md rule R66; log entry 10). -/
def fetchedBlock (buckets : List (Fin 15)) (onDecode : State → State) (s : State) : Host.Outcome State Fault Refusal :=
  if s.status.phase = .run ∧ s.hs.cmd = 1 ∧ s.hs.step = .dispatch ∧ s.exhausted = false then .next (dispatchBlock buckets s)
  else if s.status.phase = .run ∧ s.hs.cmd = 2 then .next (onDecode s)
  else .refused .blockOutsidePass

/-- A block of a kind that decodes: it delivers `d` under DECODE. -/
def execDecodable (buckets : List (Fin 15)) (d : DecodeResult) (s : State) : Host.Outcome State Fault Refusal :=
  fetchedBlock buckets (deliver d) s

/-- A reserved block (spec/30_encoding.md rule R108): counted under CLASSIFY, ReservedModeEncountered with `EINFO = x`
under DECODE (spec/60_exceptions.md rule R342). -/
def execReserved (bucket : Fin 15) (x : Word64) (s : State) : Host.Outcome State Fault Refusal :=
  fetchedBlock [bucket] (raiseError .reservedModeEncountered x) s

end Sys2Proof.Machine
end

