-- ==== Sys2Proof/Machine/Bc.lean ====
section
/-!
DEFINITION. The block kinds without a mode prefix: BC1, BC2, BC3, BC4U, BC4S, BC5U, BC5S (spec/41_bc1_bc5.md).
Each has its `DR` contents, its buckets and its meaning.
-/

namespace Sys2Proof.Machine

/-- The `DR` contents of a BC1, BC2 or BC3 block: the colour block's raw 565 words, its two endpoints with alpha `a0` and
`a1`, and its colour indices (rules R162, R164, R165). -/
def colorResult (c0 c1 : BitVec 16) (idx : BitVec 32) (a0 a1 : BitVec 16) (ix1 : Vector (BitVec 4) 16) (sub : BitVec 2) :
    DecodeResult :=
  let eps := #v[c565 c0 a0, c565 c1 a1, noEndpoint, noEndpoint, noEndpoint, noEndpoint]
  { DecodeResult.zero with c565 := #v[c0, c1], epraw := eps, ep := eps, ix0 := bitmap 2 idx, ix1 := ix1, sub := sub }

/-- The `DR` contents of a BC4 or BC5 block: channel 0 and channel 1 in slots 0 and 1 (rules R167, R169, R171, R172). -/
def channelResult (e00 e10 e01 e11 : BitVec 16) (ix0 ix1 : Vector (BitVec 4) 16) (ndiv : BitVec 8) (sub : BitVec 2) :
    DecodeResult :=
  let eps := #v[rgba e00 e01 0 0, rgba e10 e11 0 0, noEndpoint, noEndpoint, noEndpoint, noEndpoint]
  { DecodeResult.zero with epraw := eps, ep := eps, ix0 := ix0, ix1 := ix1, ndiv := ndiv, sub := sub }

/-- The indices of a register list that the block kind does not have. -/
def noIndices : Vector (BitVec 4) 16 := Vector.replicate 16 0

/-- BC1 (rule R162). -/
def bc1Result (c0 c1 : BitVec 16) (idx : BitVec 32) : DecodeResult :=
  colorResult c0 c1 idx 0 0 noIndices (subBits (transparent c0 c1) false)

/-- BC2 (rule R164): `IX1` holds the explicit alpha, `SUB` is 0. -/
def bc2Result (abm : BitVec 64) (c0 c1 : BitVec 16) (idx : BitVec 32) : DecodeResult :=
  colorResult c0 c1 idx 0 0 (bitmap 4 abm) 0

/-- BC3 (rule R165). -/
def bc3Result (a0 a1 : BitVec 8) (aidx : BitVec 48) (c0 c1 : BitVec 16) (idx : BitVec 32) : DecodeResult :=
  colorResult c0 c1 idx (component false a0) (component false a1) (bitmap 3 aidx) (subBits (sixvalueU a0 a1) false)

/-- BC4U (rule R167). -/
def bc4uResult (e0 e1 : BitVec 8) (idx : BitVec 48) : DecodeResult :=
  channelResult (component false e0) (component false e1) 0 0 (bitmap 3 idx) noIndices 255 (subBits (sixvalueU e0 e1) false)

/-- BC4S (rule R169). -/
def bc4sResult (e0 e1 : BitVec 8) (idx : BitVec 48) : DecodeResult :=
  channelResult (component true e0) (component true e1) 0 0 (bitmap 3 idx) noIndices 127 (subBits (sixvalueS e0 e1) false)

/-- BC5U (rule R171). -/
def bc5uResult (ue0 ue1 : BitVec 8) (uidx : BitVec 48) (ve0 ve1 : BitVec 8) (vidx : BitVec 48) : DecodeResult :=
  channelResult (component false ue0) (component false ue1) (component false ve0) (component false ve1)
    (bitmap 3 uidx) (bitmap 3 vidx) 255 (subBits (sixvalueU ue0 ue1) (sixvalueU ve0 ve1))

/-- BC5S (rule R172). -/
def bc5sResult (ue0 ue1 : BitVec 8) (uidx : BitVec 48) (ve0 ve1 : BitVec 8) (vidx : BitVec 48) : DecodeResult :=
  channelResult (component true ue0) (component true ue1) (component true ve0) (component true ve1)
    (bitmap 3 uidx) (bitmap 3 vidx) 127 (subBits (sixvalueS ue0 ue1) (sixvalueS ve0 ve1))

/-- The buckets of a BC2 block: none, or bucket 0, as the open parameter says (spec/44_classifier.md rule R256). -/
def bc2Buckets (p : Params) : List (Fin 15) :=
  match p.bc2Bucket with
  | .noBucket => []
  | .bucketZero => [0]

/-- `BC1` (rules R162, R255). -/
def execBc1 (c0 c1 : BitVec 16) (idx : BitVec 32) (s : State) : Host.Outcome State Fault Refusal :=
  execDecodable [lowBucket (transparent c0 c1)] (bc1Result c0 c1 idx) s

/-- `BC2` (rules R164, R256). -/
def execBc2 (abm : BitVec 64) (c0 c1 : BitVec 16) (idx : BitVec 32) (s : State) : Host.Outcome State Fault Refusal :=
  execDecodable (bc2Buckets s.params) (bc2Result abm c0 c1 idx) s

/-- `BC3` (rules R165, R257). -/
def execBc3 (a0 a1 : BitVec 8) (aidx : BitVec 48) (c0 c1 : BitVec 16) (idx : BitVec 32) (s : State) :
    Host.Outcome State Fault Refusal :=
  execDecodable [lowBucket (sixvalueU a0 a1)] (bc3Result a0 a1 aidx c0 c1 idx) s

/-- `BC4U` (rules R167, R258). -/
def execBc4u (e0 e1 : BitVec 8) (idx : BitVec 48) (s : State) : Host.Outcome State Fault Refusal :=
  execDecodable [lowBucket (sixvalueU e0 e1)] (bc4uResult e0 e1 idx) s

/-- `BC4S` (rules R169, R258). -/
def execBc4s (e0 e1 : BitVec 8) (idx : BitVec 48) (s : State) : Host.Outcome State Fault Refusal :=
  execDecodable [lowBucket (sixvalueS e0 e1)] (bc4sResult e0 e1 idx) s

/-- `BC5U` (rules R171, R259). -/
def execBc5u (ue0 ue1 : BitVec 8) (uidx : BitVec 48) (ve0 ve1 : BitVec 8) (vidx : BitVec 48) (s : State) :
    Host.Outcome State Fault Refusal :=
  execDecodable [lowBucket (sixvalueU ue0 ue1), highBucket (sixvalueU ve0 ve1)] (bc5uResult ue0 ue1 uidx ve0 ve1 vidx) s

/-- `BC5S` (rules R172, R259). -/
def execBc5s (ue0 ue1 : BitVec 8) (uidx : BitVec 48) (ve0 ve1 : BitVec 8) (vidx : BitVec 48) (s : State) :
    Host.Outcome State Fault Refusal :=
  execDecodable [lowBucket (sixvalueS ue0 ue1), highBucket (sixvalueS ve0 ve1)] (bc5sResult ue0 ue1 uidx ve0 ve1 vidx) s

end Sys2Proof.Machine
end

