-- ==== Sys2Proof/Machine/Bc6h.lean ====
section
/-!
DEFINITION. The BC6H block kinds (spec/42_bc6h.md). The format tag decides signedness only (rule R180).
-/

namespace Sys2Proof.Machine

/-- The format variant is signed: `CR.FMT = BC6HS` (rule R183). -/
def bc6hSigned (s : State) : Bool := decide (s.cr.fmt = Format.bc6hs.tag)

/-- An endpoint of three components, each extended from its own width (rules R183, R184); the alpha slot is 0. -/
def bc6hEndpoint (signed : Bool) {x y z : Nat} (r : BitVec x) (g : BitVec y) (b : BitVec z) : Vector (BitVec 16) 4 :=
  rgba (component signed r) (component signed g) (component signed b) 0

/-- The `DR` contents of a two-subset block, modes 1 to 10 (rules R183, R185). -/
def bc6hTwoResult (m : BitVec 5) (signed : Bool) {w x y z : Nat} (f : Bc6hTwo w x y z) : DecodeResult :=
  let eps := #v[bc6hEndpoint signed f.rW f.gW f.bW, bc6hEndpoint signed f.rX f.gX f.bX,
    bc6hEndpoint signed f.rY f.gY f.bY, bc6hEndpoint signed f.rZ f.gZ f.bZ, noEndpoint, noEndpoint]
  { DecodeResult.zero with
    mode := m, ns := 1, shape := f.d.setWidth 6, epraw := eps, ep := eps, ix0 := unpack f.idx.toNat 3 1 f.d.toNat }

/-- The `DR` contents of a one-subset block, modes 11 to 14 (rules R183, R185). -/
def bc6hOneResult (m : BitVec 5) (signed : Bool) {w x : Nat} (f : Bc6hOne w x) : DecodeResult :=
  let eps := #v[bc6hEndpoint signed f.rW f.gW f.bW, bc6hEndpoint signed f.rX f.gX f.bX,
    noEndpoint, noEndpoint, noEndpoint, noEndpoint]
  { DecodeResult.zero with mode := m, epraw := eps, ep := eps, ix0 := unpack f.idx.toNat 4 0 0 }

/-- `BC6H.M1` (rules R186, R183; bucket 0, spec/44_classifier.md rule R260). -/
def execBc6hM1 (f : Bc6hTwo 10 5 5 5) (s : State) : Host.Outcome State Fault Refusal :=
  execDecodable [0] (bc6hTwoResult 1 (bc6hSigned s) f) s

/-- `BC6H.M2` (rules R187, R183; bucket 1, spec/44_classifier.md rule R260). -/
def execBc6hM2 (f : Bc6hTwo 7 6 6 6) (s : State) : Host.Outcome State Fault Refusal :=
  execDecodable [1] (bc6hTwoResult 2 (bc6hSigned s) f) s

/-- `BC6H.M3` (rules R188, R183; bucket 2, spec/44_classifier.md rule R260). -/
def execBc6hM3 (f : Bc6hTwo 11 5 4 4) (s : State) : Host.Outcome State Fault Refusal :=
  execDecodable [2] (bc6hTwoResult 3 (bc6hSigned s) f) s

/-- `BC6H.M4` (rules R189, R183; bucket 3, spec/44_classifier.md rule R260). -/
def execBc6hM4 (f : Bc6hTwo 11 4 5 4) (s : State) : Host.Outcome State Fault Refusal :=
  execDecodable [3] (bc6hTwoResult 4 (bc6hSigned s) f) s

/-- `BC6H.M5` (rules R190, R183; bucket 4, spec/44_classifier.md rule R260). -/
def execBc6hM5 (f : Bc6hTwo 11 4 4 5) (s : State) : Host.Outcome State Fault Refusal :=
  execDecodable [4] (bc6hTwoResult 5 (bc6hSigned s) f) s

/-- `BC6H.M6` (rules R191, R183; bucket 5, spec/44_classifier.md rule R260). -/
def execBc6hM6 (f : Bc6hTwo 9 5 5 5) (s : State) : Host.Outcome State Fault Refusal :=
  execDecodable [5] (bc6hTwoResult 6 (bc6hSigned s) f) s

/-- `BC6H.M7` (rules R192, R183; bucket 6, spec/44_classifier.md rule R260). -/
def execBc6hM7 (f : Bc6hTwo 8 6 5 5) (s : State) : Host.Outcome State Fault Refusal :=
  execDecodable [6] (bc6hTwoResult 7 (bc6hSigned s) f) s

/-- `BC6H.M8` (rules R193, R183; bucket 7, spec/44_classifier.md rule R260). -/
def execBc6hM8 (f : Bc6hTwo 8 5 6 5) (s : State) : Host.Outcome State Fault Refusal :=
  execDecodable [7] (bc6hTwoResult 8 (bc6hSigned s) f) s

/-- `BC6H.M9` (rules R194, R183; bucket 8, spec/44_classifier.md rule R260). -/
def execBc6hM9 (f : Bc6hTwo 8 5 5 6) (s : State) : Host.Outcome State Fault Refusal :=
  execDecodable [8] (bc6hTwoResult 9 (bc6hSigned s) f) s

/-- `BC6H.M10` (rules R195, R183; bucket 9, spec/44_classifier.md rule R260). -/
def execBc6hM10 (f : Bc6hTwo 6 6 6 6) (s : State) : Host.Outcome State Fault Refusal :=
  execDecodable [9] (bc6hTwoResult 10 (bc6hSigned s) f) s

/-- `BC6H.M11` (rules R196, R183; bucket 10, spec/44_classifier.md rule R260). -/
def execBc6hM11 (f : Bc6hOne 10 10) (s : State) : Host.Outcome State Fault Refusal :=
  execDecodable [10] (bc6hOneResult 11 (bc6hSigned s) f) s

/-- `BC6H.M12` (rules R197, R183; bucket 11, spec/44_classifier.md rule R260). -/
def execBc6hM12 (f : Bc6hOne 11 9) (s : State) : Host.Outcome State Fault Refusal :=
  execDecodable [11] (bc6hOneResult 12 (bc6hSigned s) f) s

/-- `BC6H.M13` (rules R198, R183; bucket 12, spec/44_classifier.md rule R260). -/
def execBc6hM13 (f : Bc6hOne 12 8) (s : State) : Host.Outcome State Fault Refusal :=
  execDecodable [12] (bc6hOneResult 13 (bc6hSigned s) f) s

/-- `BC6H.M14` (rules R199, R183; bucket 13, spec/44_classifier.md rule R260). -/
def execBc6hM14 (f : Bc6hOne 16 4) (s : State) : Host.Outcome State Fault Refusal :=
  execDecodable [13] (bc6hOneResult 14 (bc6hSigned s) f) s

/-- `BC6H.RSVD.13` (rule R200): bucket 14, or the error with `EINFO = B[4:0]`; the other bits are not examined. -/
def execBc6hRsvd13 (_rest : BitVec 123) (s : State) : Host.Outcome State Fault Refusal := execReserved 14 0x13 s

/-- `BC6H.RSVD.17` (rule R200): bucket 14, or the error with `EINFO = B[4:0]`; the other bits are not examined. -/
def execBc6hRsvd17 (_rest : BitVec 123) (s : State) : Host.Outcome State Fault Refusal := execReserved 14 0x17 s

/-- `BC6H.RSVD.1B` (rule R200): bucket 14, or the error with `EINFO = B[4:0]`; the other bits are not examined. -/
def execBc6hRsvd1B (_rest : BitVec 123) (s : State) : Host.Outcome State Fault Refusal := execReserved 14 0x1B s

/-- `BC6H.RSVD.1F` (rule R200): bucket 14, or the error with `EINFO = B[4:0]`; the other bits are not examined. -/
def execBc6hRsvd1F (_rest : BitVec 123) (s : State) : Host.Outcome State Fault Refusal := execReserved 14 0x1F s

end Sys2Proof.Machine
end

