-- ==== Sys2Proof/Machine/Bc7.lean ====
section
/-!
DEFINITION. The BC7 block kinds (spec/43_bc7.md).
-/

namespace Sys2Proof.Machine

/-- An endpoint `e` as stored (rule R223): absent components are 0. -/
def bc7Raw {part rot isel ne col alpha np ix ix2 : Nat} (f : Bc7Fields part rot isel ne col alpha np ix ix2) (e : Nat) :
    Vector (BitVec 16) 4 :=
  rgba (fieldAt f.r e) (fieldAt f.g e) (fieldAt f.b e) (fieldAt f.a e)

/-- An endpoint after P-bit reconstruction (rule R222): every component the mode has, alpha only where `hasAlpha`. -/
def bc7Reconstruct (hasAlpha : Bool) (raw : Vector (BitVec 16) 4) (p : BitVec 1) : Vector (BitVec 16) 4 :=
  rgba (withPBit raw[0] p) (withPBit raw[1] p) (withPBit raw[2] p) (if hasAlpha then withPBit raw[3] p else 0)

/-- The common decode procedure (rule R223) of mode `m` with `ne` endpoints: `pbits` lists `pbit_m(e)` per endpoint,
empty where the mode has no P-bits (rule R222); the primary indices have width `n`. -/
def bc7Result (m : BitVec 5) (ns : BitVec 2) (pbits : List (BitVec 1)) (n : Nat) (ix1 : Vector (BitVec 4) 16)
    {part rot isel ne col alpha np ix ix2 : Nat} (f : Bc7Fields part rot isel ne col alpha np ix ix2) : DecodeResult :=
  { DecodeResult.zero with
    mode := m
    ns := ns
    shape := f.part.setWidth 6
    rot := f.rot.setWidth 2
    isel := f.isel.setWidth 1
    epraw := Vector.ofFn fun e => bc7Raw f e.val
    ep := Vector.ofFn fun e =>
      if e.val < pbits.length then bc7Reconstruct (0 < alpha) (bc7Raw f e.val) (pbitAt pbits e.val) else bc7Raw f e.val
    pb := Vector.ofFn fun e => pbitAt pbits e.val
    ix0 := unpack f.idx.toNat n ns.toNat f.part.toNat
    ix1 := ix1 }

/-- The second index list of a mode that has none. -/
def bc7NoIx1 : Vector (BitVec 4) 16 := Vector.replicate 16 0

/-- Per-subset P-bits (rule R222, mode 1): `P0` for endpoints 0 and 1, `P1` for endpoints 2 and 3. -/
def pbitsPerSubset (p : Vector (BitVec 1) 2) : List (BitVec 1) := [p[0], p[0], p[1], p[1]]

/-- The `DR` contents of mode 0 (rule R224). -/
def bc7M0Result (f : Bc7Fields 4 0 0 6 4 0 6 45 0) : DecodeResult := bc7Result 0 2 f.p.toList 3 bc7NoIx1 f

/-- `BC7.M0` (rules R224, R223; bucket 0, spec/44_classifier.md rule R261). -/
def execBc7M0 (f : Bc7Fields 4 0 0 6 4 0 6 45 0) (s : State) : Host.Outcome State Fault Refusal :=
  execDecodable [0] (bc7M0Result f) s

/-- The `DR` contents of mode 1 (rule R225). -/
def bc7M1Result (f : Bc7Fields 6 0 0 4 6 0 2 46 0) : DecodeResult := bc7Result 1 1 (pbitsPerSubset f.p) 3 bc7NoIx1 f

/-- `BC7.M1` (rules R225, R223; bucket 1, spec/44_classifier.md rule R261). -/
def execBc7M1 (f : Bc7Fields 6 0 0 4 6 0 2 46 0) (s : State) : Host.Outcome State Fault Refusal :=
  execDecodable [1] (bc7M1Result f) s

/-- The `DR` contents of mode 2 (rule R226). -/
def bc7M2Result (f : Bc7Fields 6 0 0 6 5 0 0 29 0) : DecodeResult := bc7Result 2 2 [] 2 bc7NoIx1 f

/-- `BC7.M2` (rules R226, R223; bucket 2, spec/44_classifier.md rule R261). -/
def execBc7M2 (f : Bc7Fields 6 0 0 6 5 0 0 29 0) (s : State) : Host.Outcome State Fault Refusal :=
  execDecodable [2] (bc7M2Result f) s

/-- The `DR` contents of mode 3 (rule R227). -/
def bc7M3Result (f : Bc7Fields 6 0 0 4 7 0 4 30 0) : DecodeResult := bc7Result 3 1 f.p.toList 2 bc7NoIx1 f

/-- `BC7.M3` (rules R227, R223; bucket 3, spec/44_classifier.md rule R261). -/
def execBc7M3 (f : Bc7Fields 6 0 0 4 7 0 4 30 0) (s : State) : Host.Outcome State Fault Refusal :=
  execDecodable [3] (bc7M3Result f) s

/-- The `DR` contents of mode 4 (rule R228). -/
def bc7M4Result (f : Bc7Fields 0 2 1 2 5 6 0 31 47) : DecodeResult := bc7Result 4 0 [] 2 (unpack f.idx2.toNat 3 0 0) f

/-- `BC7.M4` (rules R228, R223; bucket 4, spec/44_classifier.md rule R261). -/
def execBc7M4 (f : Bc7Fields 0 2 1 2 5 6 0 31 47) (s : State) : Host.Outcome State Fault Refusal :=
  execDecodable [4] (bc7M4Result f) s

/-- The `DR` contents of mode 5 (rule R229). -/
def bc7M5Result (f : Bc7Fields 0 2 0 2 7 8 0 31 31) : DecodeResult := bc7Result 5 0 [] 2 (unpack f.idx2.toNat 2 0 0) f

/-- `BC7.M5` (rules R229, R223; bucket 5, spec/44_classifier.md rule R261). -/
def execBc7M5 (f : Bc7Fields 0 2 0 2 7 8 0 31 31) (s : State) : Host.Outcome State Fault Refusal :=
  execDecodable [5] (bc7M5Result f) s

/-- The `DR` contents of mode 6 (rule R230). -/
def bc7M6Result (f : Bc7Fields 0 0 0 2 7 7 2 63 0) : DecodeResult := bc7Result 6 0 f.p.toList 4 bc7NoIx1 f

/-- `BC7.M6` (rules R230, R223; bucket 6, spec/44_classifier.md rule R261). -/
def execBc7M6 (f : Bc7Fields 0 0 0 2 7 7 2 63 0) (s : State) : Host.Outcome State Fault Refusal :=
  execDecodable [6] (bc7M6Result f) s

/-- The `DR` contents of mode 7 (rule R231). -/
def bc7M7Result (f : Bc7Fields 6 0 0 4 5 5 4 30 0) : DecodeResult := bc7Result 7 1 f.p.toList 2 bc7NoIx1 f

/-- `BC7.M7` (rules R231, R223; bucket 7, spec/44_classifier.md rule R261). -/
def execBc7M7 (f : Bc7Fields 6 0 0 4 5 5 4 30 0) (s : State) : Host.Outcome State Fault Refusal :=
  execDecodable [7] (bc7M7Result f) s

/-- `BC7.RSVD` (rule R232): bucket 8, or the error with `EINFO = 0`; bits 127:8 are not examined. -/
def execBc7Rsvd (_rest : BitVec 120) (s : State) : Host.Outcome State Fault Refusal := execReserved 8 0 s

end Sys2Proof.Machine
end

