-- ==== Sys2Proof/Machine/Commands.lean ====
section
/-!
DEFINITION. The host commands but STATS (spec/46_commands.md). Each has what it does after the command-start actions
(`…Act`) and its meaning. CLASSIFY and DECODE leave `PHASE = RUN` for the steps that fetch blocks (log entry 9).
-/

namespace Sys2Proof.Machine

/-- `TOTAL <- 0` and every `HIST[k] <- 0` (spec/44_classifier.md rule R251). -/
def zeroAccumulator (s : State) : State := { s with total := 0, hist := Vector.replicate 15 0 }

/-- The first checks of a block operation, in the order of spec/60_exceptions.md rule R349: UnsupportedFormat (rule R341),
then NullBuffer (rule R344), then what is left of the command under the format of the tag. -/
def withFormat (s : State) (act : Format → State) : State :=
  match Format.ofTag s.cr.fmt with
  | none => raiseError .unsupportedFormat (s.cr.fmt.setWidth 64) s
  | some fmt => if s.cr.base = 0 then raiseError .nullBuffer 0 s else act fmt

/-- IllegalOperand with the number of the offending register (spec/60_exceptions.md rule R346). -/
def illegalOperand (reg : Word64) (s : State) : State := raiseError .illegalOperand reg s

/-- The bytes of the block of `n` bytes at row `CR.BY`, column `CR.BX` (spec/46_commands.md rules R313, R315). -/
def namedBlockAddr (cr : CtrlRegs) (n : Nat) : Word64 := blockAddr cr n cr.bY.toNat cr.bX.toNat

/-- What a CLASSIFY writes before its checks (spec/44_classifier.md rule R251). -/
def startAccumulator (s : State) : State := zeroAccumulator (setHistv false s)

/-- The cursor at the first block, `HS.STEP` at DISPATCH (rule R251); `empty`: the walk has no block, so that DISPATCH
finds the buffer exhausted (rules R252, R266; log entry 7). -/
def startWalk (empty : Bool) (s : State) : State :=
  setHStep .dispatch (setCursor 0 0 { s with buckets := [], exhausted := empty })

/-- CLASSIFY's pass start (spec/44_classifier.md rule R251). -/
def classifyAct (s : State) : State :=
  withFormat (startAccumulator s) fun fmt =>
    startWalk (decide (nrows s.cr = 0 ∨ ncols s.params s.cr fmt.nblk = 0)) (startAccumulator s)

/-- `CLASSIFY` (rule R312; spec/44_classifier.md rule R250). -/
def execClassify (s : State) : Host.Outcome State Fault Refusal := runCommand 1 classifyAct s

/-- DECODE up to the block fetch (rule R313). -/
def decodeAct (s : State) : State :=
  withFormat (setDecv false s) fun fmt =>
    if ncols s.params s.cr fmt.nblk ≤ s.cr.bX.toNat then illegalOperand 5 (setDecv false s)
    else if nrows s.cr ≤ s.cr.bY.toNat then illegalOperand 6 (setDecv false s)
    else setDecv false s

/-- `DECODE` (rule R313). -/
def execDecode (s : State) : Host.Outcome State Fault Refusal := runCommand 2 decodeAct s

/-- EXTRACT (rule R315): `STATUS.XV` is cleared first and set again by `finishX` where it completes. The sum of offset and width is taken on unbounded integers. -/
def extractAct (s : State) : State :=
  withFormat (setXv false s) fun fmt =>
    if 64 < s.cr.op1.toNat then illegalOperand 8 (setXv false s)
    else if 8 * fmt.nblk < s.cr.op0.toNat + s.cr.op1.toNat then illegalOperand 7 (setXv false s)
    else
      finishX (BitVec.ofNat 64
        (extractField (memRead s.mem (namedBlockAddr s.cr fmt.nblk) fmt.nblk) s.cr.op0.toNat s.cr.op1.toNat)) s

/-- `EXTRACT` (rule R315). -/
def execExtract (s : State) : Host.Outcome State Fault Refusal := runCommand 4 extractAct s

/-- SEXT (rule R316): `tc_64` of `sext_k(raw)`. -/
def sextAct (s : State) : State :=
  if s.cr.op0.toNat = 0 ∨ 64 < s.cr.op0.toNat then illegalOperand 7 (setXv false s)
  else if s.cr.op0.toNat < 64 ∧ 2 ^ s.cr.op0.toNat ≤ s.cr.op1.toNat then illegalOperand 8 (setXv false s)
  else finishX (BitVec.ofInt 64 (sextInt s.cr.op0.toNat s.cr.op1.toNat)) s

/-- `SEXT` (rule R316). -/
def execSext (s : State) : Host.Outcome State Fault Refusal := runCommand 5 sextAct s

/-- The operand checks of FIXUP and ISFIX (rule R317), with the largest `CR.OP2`. -/
def withTableOperands (maxOp2 : Nat) (value : Nat → Nat → Nat → Word64) (s : State) : State :=
  if 2 < s.cr.op0.toNat then illegalOperand 7 (setXv false s)
  else if 63 < s.cr.op1.toNat then illegalOperand 8 (setXv false s)
  else if maxOp2 < s.cr.op2.toNat then illegalOperand 9 (setXv false s)
  else finishX (value s.cr.op0.toNat s.cr.op1.toNat s.cr.op2.toNat) s

/-- FIXUP (rule R317): `XRES <- FIXUP[OP0][OP1][OP2]`. -/
def fixupAct (s : State) : State := withTableOperands 2 (fun p t q => BitVec.ofNat 64 (fixupEntry p t q)) s

/-- `FIXUP` (rule R317). -/
def execFixup (s : State) : Host.Outcome State Fault Refusal := runCommand 6 fixupAct s

/-- ISFIX (rule R317): `XRES <- isfix(OP0, OP1, OP2)`. -/
def isfixAct (s : State) : State := withTableOperands 15 (fun p t j => BitVec.ofNat 64 (isfix p t j).toNat) s

/-- `ISFIX` (rule R317). -/
def execIsfix (s : State) : Host.Outcome State Fault Refusal := runCommand 7 isfixAct s

/-- An illegal command code (rule R318): IllegalOperand with `EINFO = 10 + 256 * code`. -/
def illegalCodeAct (code : Nibble) (s : State) : State := raiseError .illegalOperand (BitVec.ofNat 64 (10 + 256 * code.toNat)) s

/-- `CMD.ILLEGAL.0` (rule R318). -/
def execCmdIllegal0 (s : State) : Host.Outcome State Fault Refusal := runCommand 0 (illegalCodeAct 0) s

/-- `CMD.ILLEGAL.8_15` (rule R318): `code` is the code written. -/
def execCmdIllegal8to15 (code : Nibble) (s : State) : Host.Outcome State Fault Refusal :=
  runCommand code (illegalCodeAct code) s

end Sys2Proof.Machine
end

