-- ==== Sys2Proof/Machine/Float.lean ====
section
/-!
DEFINITION. The numerics record `NUM` (spec/45_statistics.md rule R281): IEEE 754 binary32, round to nearest even,
subnormals kept, no fused operation. A finite value is an exact integer multiple of 2^-149; every operation is computed
exactly on those integers and rounded once.
-/

namespace Sys2Proof.Machine

/-- The sign bit. -/
def fNeg (a : F32) : Bool := a.getLsbD 31

/-- The exponent field. -/
def fExp (a : F32) : Nat := a.toNat / 2 ^ 23 % 256

/-- The fraction field. -/
def fFrac (a : F32) : Nat := a.toNat % 2 ^ 23

/-- `isfinite(a)`: false exactly when the exponent field is all ones (rule R281). -/
def isFinite (a : F32) : Bool := fExp a != 255

/-- `a` is a NaN. -/
def isNaN (a : F32) : Bool := fExp a == 255 && fFrac a != 0

/-- `a` is an infinity. -/
def isInf (a : F32) : Bool := fExp a == 255 && fFrac a == 0

/-- The magnitude of a finite value in units of 2^-149. -/
def fMag (a : F32) : Nat := if fExp a = 0 then fFrac a else (2 ^ 23 + fFrac a) * 2 ^ (fExp a - 1)

/-- The encoding with sign `neg` and exponent and fraction fields `m`. -/
def fEncode (neg : Bool) (m : Nat) : F32 := BitVec.ofNat 32 (neg.toNat * 2 ^ 31 + m)

/-- A zero of sign `neg`. -/
def fZero (neg : Bool) : F32 := fEncode neg 0

/-- An infinity of sign `neg`. -/
def fInf (neg : Bool) : F32 := fEncode neg 0x7F800000

/-- The NaN that operation `op` delivers on `a` and `b`: its sign, payload and quiet bit are unspecified (entry U7), so
they come from a free value (log entry 3). -/
def fNaN (op : FOp) (a b : F32) : F32 :=
  let f := (Config.nanFree op a b).toNat
  fEncode (f / 2 ^ 31 == 1) (0x7F800000 + if f % 2 ^ 23 = 0 then 1 else f % 2 ^ 23)

/-- Round-to-nearest-even division of naturals. -/
def divRNE (n d : Nat) : Nat :=
  if 2 * (n % d) > d ∨ (2 * (n % d) = d ∧ n / d % 2 = 1) then n / d + 1 else n / d

/-- The binary32 value nearest to `num / den` units of 2^-149, ties to even, of sign `neg`: 24 significant bits are kept
from the leading one on, fewer below the normal range; the encodings are consecutive, so a carry moves to the next
exponent, and what reaches or passes the encoding of infinity is infinity. -/
def roundQuot (neg : Bool) (num den : Nat) : F32 :=
  let k := Nat.log2 (num / den) - 23
  fEncode neg (min (k * 2 ^ 23 + divRNE num (den * 2 ^ k)) 0x7F800000)

/-- The exact value of a finite `a` in units of 2^-149. -/
def fInt (a : F32) : Int := if fNeg a then -(fMag a : Int) else fMag a

/-- The sum of `a` and `b`, with `nan` the result where it is one: `+0` from an exact zero sum unless both are negative. -/
def fSum (nan a b : F32) : F32 :=
  if isNaN a || isNaN b then nan
  else if isInf a then (if isInf b && fNeg a != fNeg b then nan else a)
  else if isInf b then b
  else if fInt a + fInt b = 0 then fZero (fNeg a && fNeg b)
  else roundQuot (decide (fInt a + fInt b < 0)) (fInt a + fInt b).natAbs 1

/-- `fadd(a, b)` (rule R281). -/
def fadd (a b : F32) : F32 := fSum (fNaN .add a b) a b

/-- `fsub(a, b)` (rule R281): the sum of `a` and `b` with its sign changed. -/
def fsub (a b : F32) : F32 := fSum (fNaN .sub a b) a (b ^^^ 0x80000000)

/-- `fmul(a, b)` (rule R281). -/
def fmul (a b : F32) : F32 :=
  if isNaN a || isNaN b then fNaN .mul a b
  else if isInf a || isInf b then
    (if (!isInf a && fMag a == 0) || (!isInf b && fMag b == 0) then fNaN .mul a b else fInf (fNeg a != fNeg b))
  else roundQuot (fNeg a != fNeg b) (fMag a * fMag b) (2 ^ 149)

/-- `fdiv(a, b)` (rule R281). -/
def fdiv (a b : F32) : F32 :=
  if isNaN a || isNaN b then fNaN .div a b
  else if isInf a then (if isInf b then fNaN .div a b else fInf (fNeg a != fNeg b))
  else if isInf b then fZero (fNeg a != fNeg b)
  else if fMag b = 0 then (if fMag a = 0 then fNaN .div a b else fInf (fNeg a != fNeg b))
  else roundQuot (fNeg a != fNeg b) (fMag a * 2 ^ 149) (fMag b)

/-- The integer square root of `t`, bit by bit from bit `n - 1` down, on top of `acc`. -/
def isqrtFrom : Nat → Nat → Nat → Nat
  | 0, _, acc => acc
  | n + 1, t, acc => isqrtFrom n t (if (acc + 2 ^ n) * (acc + 2 ^ n) ≤ t then acc + 2 ^ n else acc)

/-- The integer square root of `t < 2^428`. -/
def isqrt (t : Nat) : Nat := isqrtFrom 214 t 0

/-- `fsqrt(a)` (rule R281). In units of 2^-149 the root of `m` units is the square root of `m * 2^149`; half a unit
below the rounding position stands for the part of an inexact root. -/
def fsqrt (a : F32) : F32 :=
  if isNaN a then fNaN .sqrt a 0
  else if !isInf a && fMag a == 0 then a
  else if fNeg a then fNaN .sqrt a 0
  else if isInf a then a
  else
    let t := fMag a * 2 ^ 149
    let r := isqrt t
    roundQuot false (2 * r + if r * r < t then 1 else 0) 2

/-- The value of a number or an infinity as an integer that orders like it. -/
def fKey (a : F32) : Int := if fNeg a then -((a.toNat % 2 ^ 31 : Nat) : Int) else ((a.toNat % 2 ^ 31 : Nat) : Int)

/-- `flt(a, b)` (rule R281): false whenever an operand is a NaN; `-0 < +0` is false. -/
def flt (a b : F32) : Bool := !isNaN a && !isNaN b && decide (fKey a < fKey b)

/-- `fmin(acc, x)` (rule R281), with the open field of `NUM` (entry U9, log entry 16). -/
def fmin (rule : NanRule) (acc x : F32) : F32 :=
  if rule = .takeNaN ∧ isNaN x = true then x else if flt x acc then x else acc

/-- `fmax(acc, x)` (rule R281), with the open field of `NUM` (entry U9, log entry 16). -/
def fmax (rule : NanRule) (acc x : F32) : F32 :=
  if rule = .takeNaN ∧ isNaN x = true then x else if flt acc x then x else acc

/-- `fdot3(r, g, b)` (rule R281): `K0`, `K1`, `K2` are the values nearest to 0.3, 0.59 and 0.11. -/
def fdot3 (r g b : F32) : F32 := fadd (fadd (fmul r 0x3E99999A) (fmul g 0x3F170A3D)) (fmul b 0x3DE147AE)

/-- `ofnat(n)` (rule R281). -/
def ofnat (n : Nat) : F32 := roundQuot false (n * 2 ^ 149) 1

/-- `MIN_INIT`, the largest finite value (spec/45_statistics.md rule R283). -/
def minInit : F32 := 0x7F7FFFFF

/-- `MAX_INIT`, its negative (rule R283). -/
def maxInit : F32 := 0xFF7FFFFF

end Sys2Proof.Machine
end

