-- ==== Sys2Proof/Machine/Stats.lean ====
section
/-!
DEFINITION. STATS, the pixel statistics reducer (spec/45_statistics.md): its start, and one step per pixel in each of its
two passes.
-/

namespace Sys2Proof.Machine

/-- Four binary32 zeros. -/
def zeroLanes : Vector F32 4 := Vector.replicate 4 0

/-- The start values of the `ST` registers (rule R283) of an image of `npix` pixels. -/
def StatRegs.start (npix : Word64) : StatRegs where
  min := Vector.replicate 4 minInit
  max := Vector.replicate 4 maxInit
  avg := zeroLanes
  var := zeroLanes
  sd := zeroLanes
  maxlum := 0
  special := Vector.replicate 4 0
  npix := npix

/-- The start of a pass: `HS.STEP`, `HS.SUM[c] <- +0.0`, the cursor at the first pixel (rules R284, R285, R288). -/
def startPixelPass (h : HStep) (s : State) : State :=
  { s with hs := { s.hs with step := h, sum := zeroLanes, bY := 0, bX := 0 } }

/-- What a STATS writes before its checks (rule R283); `ST.NPIX` is the product modulo 2^64. -/
def startStatistics (s : State) : State := setStatv false { s with st := StatRegs.start (s.cr.width * s.cr.height) }

/-- STATS up to the first pixel (rules R280, R283): the start values come before the two checks. -/
def statsAct (s : State) : State :=
  if s.cr.base = 0 then raiseError .nullBuffer 0 (startStatistics s)
  else if s.cr.width * s.cr.height = 0 then raiseError .emptyInput 0 (startStatistics s)
  else startPixelPass .pass1 (startStatistics s)

/-- `STATS` (spec/46_commands.md rule R314). -/
def execStats (s : State) : Host.Outcome State Fault Refusal := runCommand 3 statsAct s

/-- Channel `c` of the pixel integer `P` (rule R284): `P[32c+31 : 32c]`. -/
def channel (P c : Nat) : F32 := BitVec.ofNat 32 (P >>> (32 * c))

/-- The pixel at the cursor (rule R284). -/
def pixelAt (s : State) : Vector F32 4 :=
  Vector.ofFn fun c => channel (memRead s.mem (pixelAddr s.cr s.hs.bY.toNat s.hs.bX.toNat) 16) c.val

/-- What pass 1 does with a pixel (rule R285), lane by lane but for the luminance (rule R282). -/
def pass1Pixel (p : Vector F32 4) (s : State) : State :=
  { s with
    st := { s.st with
      maxlum := fmax s.params.nanRule s.st.maxlum (fdot3 p[0] p[1] p[2])
      min := Vector.ofFn fun c => fmin s.params.nanRule s.st.min[c] p[c]
      max := Vector.ofFn fun c => fmax s.params.nanRule s.st.max[c] p[c]
      special := Vector.ofFn fun c => if isFinite p[c] then s.st.special[c] else s.st.special[c] + 1 }
    hs := { s.hs with sum := Vector.ofFn fun c => fadd s.hs.sum[c] p[c] } }

/-- The square of the deviation from the average (rule R288). -/
def squaredDeviation (x avg : F32) : F32 := fmul (fsub x avg) (fsub x avg)

/-- What pass 2 does with a pixel (rule R288). -/
def pass2Pixel (p : Vector F32 4) (s : State) : State :=
  { s with hs := { s.hs with sum := Vector.ofFn fun c => fadd s.hs.sum[c] (squaredDeviation p[c] s.st.avg[c]) } }

/-- After pass 1: the average (rule R287) and the start of pass 2. -/
def endPass1 (s : State) : State :=
  startPixelPass .pass2
    { s with st := { s.st with avg := Vector.ofFn fun c => fdiv s.hs.sum[c] (ofnat s.st.npix.toNat) } }

/-- The variance of a lane from its sum of squares (rule R289), by the open parameter `VAR_DIV`. -/
def variance (d : VarDiv) (n : Nat) (sum : F32) : F32 :=
  match d with
  | .n => fdiv sum (ofnat n)
  | .nMinusOne => fdiv sum (ofnat (n - 1))
  | .one => sum

/-- Finish (rule R289). -/
def finishStats (s : State) : State :=
  endCommand (setStatv true
    { s with
      st := { s.st with
        var := Vector.ofFn fun c => variance s.params.varDiv s.st.npix.toNat s.hs.sum[c]
        sd := Vector.ofFn fun c => fsqrt (variance s.params.varDiv s.st.npix.toNat s.hs.sum[c]) } })

/-- The pixel walk (rule R284): the next pixel in row-major order, or `done` after the last of `ST.NPIX` (log entry 17). -/
def nextPixel (done : State → State) (s : State) : State :=
  if s.hs.bY.toNat * s.cr.width.toNat + s.hs.bX.toNat + 1 < s.st.npix.toNat then
    (if s.hs.bX.toNat + 1 < s.cr.width.toNat then setCursor s.hs.bY (s.hs.bX + 1) s else setCursor (s.hs.bY + 1) 0 s)
  else done s

/-- One pixel step of STATS in the pass that `HS.STEP` names. -/
def statsStep (s : State) : Host.Outcome State Fault Refusal :=
  match s.hs.step with
  | .pass1 => .next (nextPixel endPass1 (pass1Pixel (pixelAt s) s))
  | .pass2 => .next (nextPixel finishStats (pass2Pixel (pixelAt s) s))
  | .dispatch => .fault .stuckRun
  | .accum => .fault .stuckRun

end Sys2Proof.Machine
end

