-- ==== Sys2Proof/Machine/Dispatch.lean ====
section
/-! DEFINITION. The dispatch: one arm per constructor of `Instr`, each one call of its meaning. -/

namespace Sys2Proof.Machine

def exec (i : Instr) (s : State) : Host.Outcome State Fault Refusal :=
  match i with
  | .bc1 c0 c1 idx => Sys2Proof.Machine.execBc1 c0 c1 idx s
  | .bc2 abm c0 c1 idx => Sys2Proof.Machine.execBc2 abm c0 c1 idx s
  | .bc3 a0 a1 aidx c0 c1 idx => Sys2Proof.Machine.execBc3 a0 a1 aidx c0 c1 idx s
  | .bc4u e0 e1 idx => Sys2Proof.Machine.execBc4u e0 e1 idx s
  | .bc4s e0 e1 idx => Sys2Proof.Machine.execBc4s e0 e1 idx s
  | .bc5u ue0 ue1 uidx ve0 ve1 vidx => Sys2Proof.Machine.execBc5u ue0 ue1 uidx ve0 ve1 vidx s
  | .bc5s ue0 ue1 uidx ve0 ve1 vidx => Sys2Proof.Machine.execBc5s ue0 ue1 uidx ve0 ve1 vidx s
  | .bc6hM1 f => Sys2Proof.Machine.execBc6hM1 f s
  | .bc6hM2 f => Sys2Proof.Machine.execBc6hM2 f s
  | .bc6hM3 f => Sys2Proof.Machine.execBc6hM3 f s
  | .bc6hM4 f => Sys2Proof.Machine.execBc6hM4 f s
  | .bc6hM5 f => Sys2Proof.Machine.execBc6hM5 f s
  | .bc6hM6 f => Sys2Proof.Machine.execBc6hM6 f s
  | .bc6hM7 f => Sys2Proof.Machine.execBc6hM7 f s
  | .bc6hM8 f => Sys2Proof.Machine.execBc6hM8 f s
  | .bc6hM9 f => Sys2Proof.Machine.execBc6hM9 f s
  | .bc6hM10 f => Sys2Proof.Machine.execBc6hM10 f s
  | .bc6hM11 f => Sys2Proof.Machine.execBc6hM11 f s
  | .bc6hM12 f => Sys2Proof.Machine.execBc6hM12 f s
  | .bc6hM13 f => Sys2Proof.Machine.execBc6hM13 f s
  | .bc6hM14 f => Sys2Proof.Machine.execBc6hM14 f s
  | .bc6hRsvd13 rest => Sys2Proof.Machine.execBc6hRsvd13 rest s
  | .bc6hRsvd17 rest => Sys2Proof.Machine.execBc6hRsvd17 rest s
  | .bc6hRsvd1B rest => Sys2Proof.Machine.execBc6hRsvd1B rest s
  | .bc6hRsvd1F rest => Sys2Proof.Machine.execBc6hRsvd1F rest s
  | .bc7M0 f => Sys2Proof.Machine.execBc7M0 f s
  | .bc7M1 f => Sys2Proof.Machine.execBc7M1 f s
  | .bc7M2 f => Sys2Proof.Machine.execBc7M2 f s
  | .bc7M3 f => Sys2Proof.Machine.execBc7M3 f s
  | .bc7M4 f => Sys2Proof.Machine.execBc7M4 f s
  | .bc7M5 f => Sys2Proof.Machine.execBc7M5 f s
  | .bc7M6 f => Sys2Proof.Machine.execBc7M6 f s
  | .bc7M7 f => Sys2Proof.Machine.execBc7M7 f s
  | .bc7Rsvd rest => Sys2Proof.Machine.execBc7Rsvd rest s
  | .classify => Sys2Proof.Machine.execClassify s
  | .decode => Sys2Proof.Machine.execDecode s
  | .stats => Sys2Proof.Machine.execStats s
  | .extract => Sys2Proof.Machine.execExtract s
  | .sext => Sys2Proof.Machine.execSext s
  | .fixup => Sys2Proof.Machine.execFixup s
  | .isfix => Sys2Proof.Machine.execIsfix s
  | .cmdIllegal0 => Sys2Proof.Machine.execCmdIllegal0 s
  | .cmdIllegal8to15 code => Sys2Proof.Machine.execCmdIllegal8to15 code s

end Sys2Proof.Machine
end

