-- ==== Sys2Proof/Machine/Sequencer.lean ====
section
/-!
DEFINITION. What one step of the machine does (log entry 1): a reset that is due, else the core's step of the running
command, else the start of a pending command, else the host's next access, else nothing (spec/10_state.md rule R20;
spec/60_exceptions.md rule R365).
-/

namespace Sys2Proof.Machine

/-- The address of the block the running command fetches next: the block at the cursor for CLASSIFY
(spec/44_classifier.md rule R253), the block named by `CR.BX`, `CR.BY` for DECODE (spec/46_commands.md rule R313). -/
def fetchAddr (s : State) (n : Nat) : Word64 :=
  if s.hs.cmd = 1 then blockAddr s.cr n s.hs.bY.toNat s.hs.bX.toNat else namedBlockAddr s.cr n

/-- The bytes of that block (spec/20_memory.md rule R62). -/
def fetchBytes (s : State) : List Byte :=
  match nblk? s.cr with
  | some n => memBytes s.mem (fetchAddr s n) n
  | none => []

/-- Fetch, decode and execute a block. -/
def blockStep (s : State) : Host.Outcome State Fault Refusal :=
  match decodeInstr (.block s.cr.fmt) (fetchBytes s) with
  | .ok i => exec i s
  | .error _ => .fault .stuckRun

/-- The next step of a CLASSIFY pass, the transitions of spec/44_classifier.md rule R266 from `RUN`: from DISPATCH the
block at the cursor is fetched and executed, or the pass ends where the buffer is exhausted; from ACCUM the block's
buckets are counted and the cursor advances. -/
def classifyStep (s : State) : Host.Outcome State Fault Refusal :=
  match s.hs.step with
  | .dispatch => if s.exhausted then .next (endPass s) else blockStep s
  | .accum => .next (accumStep s)
  | .pass1 => .fault .stuckRun
  | .pass2 => .fault .stuckRun

/-- The core's next step of the command in `HS.CMD` while `PHASE = RUN`. -/
def coreStep (s : State) : Host.Outcome State Fault Refusal :=
  if s.hs.cmd = 1 then classifyStep s
  else if s.hs.cmd = 2 then blockStep s
  else if s.hs.cmd = 3 then statsStep s
  else .fault .stuckRun

/-- A reset that is not due yet comes one core step nearer (log entry 14). -/
def tickReset (s : State) : State :=
  match s.inbox with
  | .reset (k + 1) :: rest => { s with inbox := .reset k :: rest }
  | _ => s

/-- One access of the host (spec/46_commands.md rules R310, R319; spec/20_memory.md rule R70). -/
def serve (op : HostOp) (s : State) : State :=
  match op with
  | .read n => hostRead n s
  | .write n v => hostWrite n v s
  | .store addr bytes => hostStore addr bytes s
  | .reset _ => applyReset s

/-- The host's next access, oldest first; with none the core stays idle (spec/70_reset_and_hazards.md rule R371). -/
def hostStep (s : State) : State :=
  match s.inbox with
  | [] => s
  | op :: rest => serve op { s with inbox := rest }

/-- A reset is due now. -/
def resetDue (s : State) : Bool :=
  match s.inbox with
  | .reset 0 :: _ => true
  | _ => false

/-- One step of the machine. -/
def machineStep (s : State) : Host.Outcome State Fault Refusal :=
  if resetDue s then .next (hostStep s)
  else if s.status.phase = .run then coreStep (tickReset s)
  else
    match s.crCmd with
    | some code => exec (decodeCommand code) s
    | none => .next (hostStep s)

/-- The descriptor of a one-block image of format `fmt`: block row 0, block column 0, at the address that `CR.BASE` holds,
or at 0x1000 where `CR.BASE` is the null pointer. -/
def oneBlockDescriptor (fmt : Format) (cr : CtrlRegs) : CtrlRegs :=
  { cr with
    fmt := fmt.tag, width := 4, height := 4, pitch := BitVec.ofNat 64 fmt.nblk
    base := if cr.base = 0 then 0x1000 else cr.base
    bX := 0, bY := 0 }

/-- The machine about to fetch the block whose bytes are `bytes`, by a DECODE of a one-block image (log entry 12). -/
def withBlock (fmt : Format) (bytes : List Byte) (s : State) : State :=
  { s with
    cr := oneBlockDescriptor fmt s.cr, crCmd := none, inbox := [], einfo := 0
    mem := memStore s.mem (oneBlockDescriptor fmt s.cr).base bytes
    hs := { s.hs with cmd := 2 }
    status := { s.status with phase := .run, err := .none, decv := false } }

/-- The machine about to start the command of code `code` (log entry 12). -/
def withCommand (code : Nibble) (s : State) : State :=
  { s with
    crCmd := some code, inbox := []
    status := { s.status with phase := if s.status.phase = .run then .terminal else s.status.phase } }

/-- The machine about to fetch the table word `w` (log entries 11 and 12). -/
def placeTableWord (nbits w : Nat) (s : State) : State :=
  match tableSource nbits w with
  | .command => withCommand (BitVec.ofNat 4 w) s
  | .block tag =>
    match Format.ofTag tag with
    | some fmt => withBlock fmt (bytesOfBlock fmt.nblk (BitVec.ofNat 128 w)) s
    | none => s

end Sys2Proof.Machine
end

