-- ==== Sys2Proof/Safety.lean ====
section
/-!
DEFINITION. The terms the claims use: the states in which an instruction runs, the launch premises
(spec/70_reset_and_hazards.md rules R381, R383), the invariants of the machine, and the rules' own forms of what the model
computes another way (namespace `Sys2Proof.Spec`).
-/

namespace Sys2Proof.Machine

/-! ## Where an instruction runs -/

/-- No command runs: the host may start one (spec/10_state.md rule R35). -/
def Ready (s : State) : Prop := s.status.phase ≠ .run

/-- A CLASSIFY pass is under way. -/
def Classifying (s : State) : Prop := s.status.phase = .run ∧ s.hs.cmd = 1

/-- A CLASSIFY pass is about to fetch the block at its cursor: (`RUN`, `DISPATCH`) with the cursor within bounds
(spec/44_classifier.md rule R266). -/
def Dispatching (s : State) : Prop := Classifying s ∧ s.hs.step = .dispatch ∧ s.exhausted = false

/-- A CLASSIFY pass is about to count the block it has fetched: (`RUN`, `ACCUM`) (rule R266). -/
def Accumulating (s : State) : Prop := Classifying s ∧ s.hs.step = .accum

/-- A CLASSIFY pass has counted its last block: (`RUN`, `DISPATCH`) with the buffer exhausted (rule R266). -/
def PassExhausted (s : State) : Prop := Classifying s ∧ s.hs.step = .dispatch ∧ s.exhausted = true

/-- A DECODE is fetching its block. -/
def Decoding (s : State) : Prop := s.status.phase = .run ∧ s.hs.cmd = 2

/-- A STATS is walking the pixels. -/
def Reducing (s : State) : Prop := s.status.phase = .run ∧ s.hs.cmd = 3

/-- The next thing the outside world does is not a reset. -/
def noResetNext (s : State) : Prop := ∀ k rest, s.inbox ≠ .reset k :: rest

/-- The next thing the outside world does is a reset that is due now (spec/70_reset_and_hazards.md rule R370). -/
def resetNow (s : State) : Prop := ∃ rest, s.inbox = .reset 0 :: rest

/-! ## Launch premises -/

/-- How many bytes from `CR.BASE` on a command reads at most (spec/20_memory.md rule R68; rule R381), under a supported
format; SEXT, FIXUP and ISFIX read none. -/
def extent (s : State) (code : Nibble) : Nat :=
  let n := (nblk? s.cr).getD 0
  if code = 1 then
    if nrows s.cr = 0 ∨ ncols s.params s.cr n = 0 then 0
    else (nrows s.cr - 1) * s.cr.pitch.toNat + ncols s.params s.cr n * n
  else if code = 2 ∨ code = 4 then s.cr.bY.toNat * s.cr.pitch.toNat + s.cr.bX.toNat * n + n
  else if code = 3 then 16 * (s.cr.width.toNat * s.cr.height.toNat)
  else 0

/-- The premises of rules R381 and R383: no address wraps, STATS has fewer than 2^60 pixels, the extent is loaded. -/
def LaunchPremises (s : State) (code : Nibble) : Prop :=
  s.cr.base.toNat + extent s code ≤ 2 ^ 64
    ∧ (code = 3 → s.cr.width.toNat * s.cr.height.toNat < 2 ^ 60)
    ∧ ∀ i < extent s code, (Memory.get? s.mem (s.cr.base.toNat + i)).isSome

/-! ## Invariants -/

/-- The number of blocks in a row of the walk, under the format in `CR.FMT` (spec/10_state.md rule R29). -/
def colsOf (s : State) : Nat := ncols s.params s.cr ((nblk? s.cr).getD 1)

/-- How many blocks of the walk the pass has counted, by its cursor (spec/10_state.md rules R29, R30). -/
def blocksTaken (s : State) : Nat :=
  if s.exhausted then nrows s.cr * colsOf s else s.hs.bY.toNat * colsOf s + s.hs.bX.toNat

/-- A machine whose memory is canonical and whose control state is one the rules can reach: in `RUN` one of the three
commands that take steps is in execution, without an error, on a buffer, with its cursor in bounds and its group's valid
flag clear; a pass is at DISPATCH or ACCUM, and only one that is past its last block is exhausted, only one at ACCUM holds
a list of buckets; in `NONE` no command has left a trace. -/
structure Inv (s : State) : Prop where
  memWf : Memory.wf s.mem = true
  runCmd : s.status.phase = .run → s.hs.cmd = 1 ∨ s.hs.cmd = 2 ∨ s.hs.cmd = 3
  runClean : s.status.phase = .run → s.status.err = .none ∧ s.einfo = 0 ∧ s.cr.base ≠ 0 ∧ s.crCmd = none
  classifying : Classifying s → (nblk? s.cr).isSome ∧ s.status.histv = false ∧ (s.hs.step = .dispatch ∨ s.hs.step = .accum)
  inWalk : Classifying s → s.exhausted = false → s.hs.bY.toNat < nrows s.cr ∧ s.hs.bX.toNat < colsOf s
  pastWalk : s.exhausted = true → PassExhausted s
  listed : s.buckets ≠ [] → Accumulating s
  decoding : Decoding s → (nblk? s.cr).isSome ∧ s.cr.bY.toNat < nrows s.cr ∧ s.cr.bX.toNat < colsOf s
    ∧ s.status.decv = false
  reducing : Reducing s → (s.hs.step = .pass1 ∨ s.hs.step = .pass2) ∧ s.st.npix = s.cr.width * s.cr.height
    ∧ s.hs.bY.toNat * s.cr.width.toNat + s.hs.bX.toNat < s.st.npix.toNat ∧ s.hs.bX.toNat < s.cr.width.toNat
    ∧ s.status.statv = false
  fresh : s.status.phase = .none → s.status.err = .none ∧ s.einfo = 0 ∧ s.status.histv = false
    ∧ s.status.statv = false ∧ s.status.decv = false ∧ s.status.xv = false

/-- The sum of all buckets. -/
def histSum (s : State) : Word64 := s.hist.toList.foldl (· + ·) 0

/-- What the sum of the buckets is after `total` blocks of a format (spec/44_classifier.md rule R262). -/
def expectedSum (p : Params) (fmt : Format) (total : Word64) : Word64 :=
  match fmt with
  | .bc5u | .bc5s => total + total
  | .bc2 => if p.bc2Bucket = .bucketZero then total else 0
  | .bc1 | .bc3 | .bc4u | .bc4s | .bc6hu | .bc6hs | .bc7 => total

/-- The commands, by constructor. -/
def isCommand : Instr → Bool
  | .classify | .decode | .stats | .extract | .sext | .fixup | .isfix | .cmdIllegal0 | .cmdIllegal8to15 _ => true
  | .bc1 .. | .bc2 .. | .bc3 .. | .bc4u .. | .bc4s .. | .bc5u .. | .bc5s ..
  | .bc6hM1 _ | .bc6hM2 _ | .bc6hM3 _ | .bc6hM4 _ | .bc6hM5 _ | .bc6hM6 _ | .bc6hM7 _
  | .bc6hM8 _ | .bc6hM9 _ | .bc6hM10 _ | .bc6hM11 _ | .bc6hM12 _ | .bc6hM13 _ | .bc6hM14 _
  | .bc6hRsvd13 _ | .bc6hRsvd17 _ | .bc6hRsvd1B _ | .bc6hRsvd1F _
  | .bc7M0 _ | .bc7M1 _ | .bc7M2 _ | .bc7M3 _ | .bc7M4 _ | .bc7M5 _ | .bc7M6 _ | .bc7M7 _ | .bc7Rsvd _ => false

end Sys2Proof.Machine

namespace Sys2Proof.Spec

open Sys2Proof.Machine

/-! ## The rules' own forms -/

/-- `B[hi:lo]` (spec/00_scope.md rule R8). -/
def slice (B : BitVec 128) (hi lo : Nat) : Nat := B.toNat / 2 ^ lo % 2 ^ (hi - lo + 1)

/-- `sext_8` of a byte (rule R8). -/
def sext8 (v : Nat) : Int := if v / 2 ^ 7 % 2 = 1 then (v : Int) - 2 ^ 8 else v

/-- `bc6h_mode(B)` (spec/42_bc6h.md rule R181); `none` stands for `RSVD`. -/
def bc6hMode (B : BitVec 128) : Option Nat :=
  if slice B 1 0 = 0b00 then some 1
  else if slice B 1 0 = 0b01 then some 2
  else ([(0b00010, 3), (0b00110, 4), (0b01010, 5), (0b01110, 6), (0b10010, 7), (0b10110, 8), (0b11010, 9), (0b11110, 10),
    (0b00011, 11), (0b00111, 12), (0b01011, 13), (0b01111, 14)] : List (Nat × Nat)).lookup (slice B 4 0)

/-- `bc7_mode(B)` (spec/43_bc7.md rule R221); `none` stands for `RSVD`. -/
def bc7Mode (B : BitVec 128) : Option Nat := (List.range 8).find? fun m => slice B m m = 1

/-- The BC4 bucket of a half starting at bit `o` (spec/44_classifier.md rule R258). -/
def bc4Bucket (signed : Bool) (B : BitVec 128) (o : Nat) : Nat :=
  if signed then (if sext8 (slice B (o + 7) o) > sext8 (slice B (o + 15) (o + 8)) then 0 else 1)
  else (if slice B (o + 7) o > slice B (o + 15) (o + 8) then 0 else 1)

/-- `buckets(tag, B)` (spec/44_classifier.md rules R254 to R261). -/
def buckets (p : Params) (fmt : Format) (B : BitVec 128) : List Nat :=
  match fmt with
  | .bc1 => [if slice B 15 0 ≤ slice B 31 16 then 1 else 0]
  | .bc2 => if p.bc2Bucket = .bucketZero then [0] else []
  | .bc3 => [if slice B 7 0 > slice B 15 8 then 0 else 1]
  | .bc4u => [bc4Bucket false B 0]
  | .bc4s => [bc4Bucket true B 0]
  | .bc5u => [bc4Bucket false B 0, 2 + bc4Bucket false B 64]
  | .bc5s => [bc4Bucket true B 0, 2 + bc4Bucket true B 64]
  | .bc6hu | .bc6hs => [((bc6hMode B).map (· - 1)).getD 14]
  | .bc7 => [(bc7Mode B).getD 8]

/-- The index unpack loop as rule R152 writes it (spec/40_extract_fixup.md), from pixel `j` and position `pos` on. -/
def unpackLoop (F n p s : Nat) : (count j pos : Nat) → List Nat
  | 0, _, _ => []
  | count + 1, j, pos =>
    let w := if isfix p s j then n - 1 else n
    (F >>> pos) % 2 ^ w :: unpackLoop F n p s count (j + 1) (pos + w)

/-- `extract(B, N, off, w)` over the two 64-bit words of a 128-bit block (spec/40_extract_fixup.md rule R142). -/
def extractWords (B off w : Nat) : Nat :=
  let lo := B % 2 ^ 64
  let hi := B / 2 ^ 64
  if off + w ≤ 64 then (lo >>> off) % 2 ^ w
  else if 64 ≤ off then (hi >>> (off - 64)) % 2 ^ w
  else ((lo >>> off) ||| (hi <<< (64 - off))) % 2 ^ w

/-- `MemRead(addr, n)` as the sum rule R60 of spec/20_memory.md writes: byte `i` at `(addr + i) mod 2^64` weighs `2^(8i)`. -/
def readLE (m : Memory) (addr : Word64) (n : Nat) : Nat :=
  ((List.range n).map fun i => (memByte m (addr + BitVec.ofNat 64 i)).toNat * 2 ^ (8 * i)).sum

/-- The block of `n` bytes at row `bY`, column `bX` (spec/20_memory.md rule R62): `a = (BASE + by*PITCH + bx*n) mod 2^64`. -/
def block (s : State) (n bY bX : Nat) : BitVec 128 :=
  BitVec.ofNat 128 (readLE s.mem (BitVec.ofNat 64 (s.cr.base.toNat + bY * s.cr.pitch.toNat + bX * n)) n)

/-- `nrows = floor(HEIGHT / 4)` (spec/10_state.md rule R29). -/
def blockRows (cr : CtrlRegs) : Nat := ⌊(cr.height.toNat : ℚ) / 4⌋₊

/-- `ncols` (spec/10_state.md rule R29) with blocks of `n` bytes: `floor(WIDTH / 4)` where `COLBOUND = WIDTH`,
`ceil(PITCH / n)` where `COLBOUND = PITCH`. -/
def blockCols (p : Params) (cr : CtrlRegs) (n : Nat) : Nat :=
  match p.colBound with
  | .width => ⌊(cr.width.toNat : ℚ) / 4⌋₊
  | .pitch => ⌈(cr.pitch.toNat : ℚ) / n⌉₊

/-- The walk of a CLASSIFY pass over `nr` rows of `nc` blocks in cursor order (spec/10_state.md rule R29). -/
def walk (nr nc : Nat) : List (Nat × Nat) :=
  (List.range nr).flatMap fun bY => (List.range nc).map fun bX => (bY, bX)

/-- `#{(by, bx) : k ∈ buckets(FMT, block(by, bx))}` (spec/44_classifier.md rule R267). -/
def bucketCount (s : State) (fmt : Format) (k : Nat) : Nat :=
  (walk (blockRows s.cr) (blockCols s.params s.cr fmt.nblk)).countP fun c =>
    (buckets s.params fmt (block s fmt.nblk c.1 c.2)).contains k

/-- `pix[i][c]` (spec/45_statistics.md rule R284): channel `c`, `P[32c+31 : 32c]`, of the `i`-th pixel in row-major order,
`i = y*WIDTH + x`, which is `P = MemRead((BASE + 16*(y*WIDTH + x)) mod 2^64, 16)` (spec/20_memory.md rule R63). -/
def pix (s : State) (i : Nat) (c : Fin 4) : F32 :=
  BitVec.ofNat 32 (readLE s.mem (BitVec.ofNat 64 (s.cr.base.toNat
    + 16 * (i / s.cr.width.toNat * s.cr.width.toNat + i % s.cr.width.toNat))) 16 / 2 ^ (32 * c.val) % 2 ^ 32)

/-- The running sum of pass 1 over the first `n` pixels (rule R285). -/
def sum1 (s : State) (n : Nat) (c : Fin 4) : F32 := (List.range n).foldl (fun acc i => fadd acc (pix s i c)) 0

/-- The average (rule R287). -/
def average (s : State) (n : Nat) (c : Fin 4) : F32 := fdiv (sum1 s n c) (ofnat n)

/-- The sum of squared deviations of pass 2 (rule R288). -/
def sum2 (s : State) (n : Nat) (c : Fin 4) : F32 :=
  (List.range n).foldl (fun acc i => fadd acc (fmul (fsub (pix s i c) (average s n c)) (fsub (pix s i c) (average s n c)))) 0

/-- The variance of a lane (rule R289), one case for each value of the open parameter `VAR_DIV`. -/
def spread (s : State) (n : Nat) (c : Fin 4) : F32 :=
  match s.params.varDiv with
  | .n => fdiv (sum2 s n c) (ofnat n)
  | .nMinusOne => fdiv (sum2 s n c) (ofnat (n - 1))
  | .one => sum2 s n c

/-- The `ST` registers after both passes over `n` pixels (rules R285 to R289). -/
def statistics (s : State) (n : Nat) : StatRegs where
  min := Vector.ofFn fun c => (List.range n).foldl (fun acc i => fmin s.params.nanRule acc (pix s i c)) 0x7F7FFFFF
  max := Vector.ofFn fun c => (List.range n).foldl (fun acc i => fmax s.params.nanRule acc (pix s i c)) 0xFF7FFFFF
  avg := Vector.ofFn fun c => average s n c
  var := Vector.ofFn fun c => spread s n c
  sd := Vector.ofFn fun c => fsqrt (spread s n c)
  maxlum := (List.range n).foldl (fun acc i => fmax s.params.nanRule acc (fdot3 (pix s i 0) (pix s i 1) (pix s i 2))) 0
  special := Vector.ofFn fun c => BitVec.ofNat 64 ((List.range n).countP fun i => !isFinite (pix s i c))
  npix := BitVec.ofNat 64 n

/-! ## Binary32 as real numbers (spec/45_statistics.md rule R281) -/

/-- The value of a finite binary32 encoding: 1 sign bit, 8 exponent bits, 23 fraction bits, subnormals kept. -/
def val (a : F32) : ℚ :=
  (if a.getLsbD 31 then -1 else 1)
    * (if (a.extractLsb' 23 8).toNat = 0 then ((a.extractLsb' 0 23).toNat : ℚ) * 2 ^ (-149 : ℤ)
       else (2 ^ 23 + ((a.extractLsb' 0 23).toNat : ℚ)) * 2 ^ (((a.extractLsb' 23 8).toNat : ℤ) - 150))

/-- `r` is the real number `x` rounded to nearest, ties to even: from 2^128 - 2^103 on, the half way beyond the largest
finite value, it is the infinity of `x`'s sign; below, no finite value is nearer, and of two that are as near `r` has the
even fraction. A result of a non-zero `x` has `x`'s sign, also where it is a zero. -/
def Rounded (x : ℝ) (r : F32) : Prop :=
  (x ≠ 0 → (r.getLsbD 31 = true ↔ x < 0))
    ∧ (2 ^ 128 - 2 ^ 103 ≤ |x| → r = 0x7F800000 ∨ r = 0xFF800000)
    ∧ (|x| < 2 ^ 128 - 2 ^ 103 → isFinite r = true
      ∧ ∀ r' : F32, isFinite r' = true → |(val r : ℝ) - x| ≤ |(val r' : ℝ) - x|
        ∧ (|(val r : ℝ) - x| = |(val r' : ℝ) - x| → val r ≠ val r' → r.getLsbD 0 = false))

/-! ## What a DECODE delivers, as the decoder rules write it -/

/-- A DECODE that ends without error (spec/46_commands.md rule R313): every `DR` register, `STATUS.DECV`, `PHASE`. -/
def delivered (d : DecodeResult) (s : State) : State :=
  { s with dr := d, status := { s.status with phase := .terminal, decv := true } }

/-- `reg[F]` (spec/42_bc6h.md rule R183): `tc_16(sext_w(raw))` if signed, else `zext_16(raw)`. -/
def bc6hReg (signed : Bool) {w : Nat} (raw : BitVec w) : BitVec 16 :=
  if signed then BitVec.ofInt 16 raw.toInt else raw.setWidth 16

/-- An index list by the loop of rule R152. -/
def indexList (F n p s : Nat) : Vector (BitVec 4) 16 :=
  Vector.ofFn fun j => BitVec.ofNat 4 ((unpackLoop F n p s 16 0 0).getD j.val 0)

/-- `DR` after a two-subset BC6H block of mode `m` (rules R183, R185). -/
def bc6hTwoDr (m : BitVec 5) (signed : Bool) {w x y z : Nat} (f : Bc6hTwo w x y z) : DecodeResult :=
  let eps : Vector (Vector (BitVec 16) 4) 6 :=
    #v[#v[bc6hReg signed f.rW, bc6hReg signed f.gW, bc6hReg signed f.bW, 0],
       #v[bc6hReg signed f.rX, bc6hReg signed f.gX, bc6hReg signed f.bX, 0],
       #v[bc6hReg signed f.rY, bc6hReg signed f.gY, bc6hReg signed f.bY, 0],
       #v[bc6hReg signed f.rZ, bc6hReg signed f.gZ, bc6hReg signed f.bZ, 0], #v[0, 0, 0, 0], #v[0, 0, 0, 0]]
  { DecodeResult.zero with
    mode := m, ns := 1, shape := BitVec.ofNat 6 f.d.toNat, epraw := eps, ep := eps
    ix0 := indexList f.idx.toNat 3 1 f.d.toNat }

/-- `DR` after a one-subset BC6H block of mode `m` (rules R183, R185). -/
def bc6hOneDr (m : BitVec 5) (signed : Bool) {w x : Nat} (f : Bc6hOne w x) : DecodeResult :=
  let eps : Vector (Vector (BitVec 16) 4) 6 :=
    #v[#v[bc6hReg signed f.rW, bc6hReg signed f.gW, bc6hReg signed f.bW, 0],
       #v[bc6hReg signed f.rX, bc6hReg signed f.gX, bc6hReg signed f.bX, 0],
       #v[0, 0, 0, 0], #v[0, 0, 0, 0], #v[0, 0, 0, 0], #v[0, 0, 0, 0]]
  { DecodeResult.zero with mode := m, epraw := eps, ep := eps, ix0 := indexList f.idx.toNat 4 0 0 }

/-- Component field `e` of a channel as a number; 0 where the mode has none (spec/43_bc7.md rule R223). -/
def comp {w n : Nat} (v : Vector (BitVec w) n) (e : Nat) : Nat := (v.toList.map BitVec.toNat).getD e 0

/-- `DR` after a BC7 block of mode `m` with `ns + 1` subsets and index width `n` (rules R222, R223, R233): `pbit e` is the
P-bit that applies to endpoint `e`, if any; components of width 0 are those the mode does not have. -/
def bc7Dr (m ns n : Nat) (pbit : Nat → Option (BitVec 1)) (ix1 : Vector (BitVec 4) 16)
    {part rot isel ne col alpha np ix ix2 : Nat} (f : Bc7Fields part rot isel ne col alpha np ix ix2) : DecodeResult :=
  let up := fun (e v : Nat) => match pbit e with
    | some P => 2 * v + P.toNat
    | none => v
  { DecodeResult.zero with
    mode := BitVec.ofNat 5 m
    ns := BitVec.ofNat 2 ns
    shape := BitVec.ofNat 6 f.part.toNat
    rot := BitVec.ofNat 2 f.rot.toNat
    isel := BitVec.ofNat 1 f.isel.toNat
    epraw := Vector.ofFn fun e =>
      #v[BitVec.ofNat 16 (comp f.r e), BitVec.ofNat 16 (comp f.g e), BitVec.ofNat 16 (comp f.b e), BitVec.ofNat 16 (comp f.a e)]
    ep := Vector.ofFn fun e =>
      #v[BitVec.ofNat 16 (up e (comp f.r e)), BitVec.ofNat 16 (up e (comp f.g e)), BitVec.ofNat 16 (up e (comp f.b e)),
         if alpha = 0 then 0 else BitVec.ofNat 16 (up e (comp f.a e))]
    pb := Vector.ofFn fun e => (pbit e).getD 0
    ix0 := indexList f.idx.toNat n ns f.part.toNat
    ix1 := ix1 }

end Sys2Proof.Spec

namespace Sys2Proof.Machine

/-- The loop invariant of rule R262: during a pass `TOTAL` is the number of blocks taken, the buckets add up as the format
says, and for BC5 so does each channel's pair; at ACCUM the list to be counted is that of the block at the cursor. -/
def HistAccounts (s : State) : Prop :=
  Classifying s → ∀ fmt, Format.ofTag s.cr.fmt = some fmt →
    s.total = BitVec.ofNat 64 (blocksTaken s)
    ∧ histSum s = expectedSum s.params fmt s.total
    ∧ (fmt = .bc5u ∨ fmt = .bc5s → s.hist[0] + s.hist[1] = s.total ∧ s.hist[2] + s.hist[3] = s.total)
    ∧ (s.hs.step = .accum → s.buckets.map Fin.val = Spec.buckets s.params fmt (Spec.block s fmt.nblk s.hs.bY.toNat s.hs.bX.toNat))

end Sys2Proof.Machine
end

