-- ==== Sys2Proof/Certificates/Slice0/Obligations.lean ====
section
/-!
DEFINITION. The statements for the provers. A statement's docstring names the rules of spec/ it rests on.
-/

open Sys2Proof Sys2Proof.Machine

/-- Registers after reset (10_state.md section 9, 70_reset_and_hazards.md section 1). State.reset has every register
whose reset value the spec gives at that value: descriptor registers 0, no command pending, STATUS 0, EINFO 0,
HS.CMD and the cursor 0, HS.STEP = DISPATCH. -/
def Obligations.ResetRegisters : Prop :=
  State.reset.cr = { fmt := 0, width := 0, height := 0, pitch := 0, base := 0, bX := 0, bY := 0, op0 := 0, op1 := 0, op2 := 0 }
    ∧ State.reset.crCmd = none
    ∧ State.reset.status = { phase := .none, err := .none, histv := false, statv := false, decv := false, xv := false }
    ∧ State.reset.status.toWord = 0 ∧ State.reset.einfo = 0 ∧ State.reset.hs.cmd = 0 ∧ State.reset.hs.bY = 0
    ∧ State.reset.hs.bX = 0 ∧ State.reset.hs.step = .dispatch

/-- Reset at any time, also during RUN (R370). Whatever the machine is doing, a reset that is due makes the next state
one in which every register with a reset value of the spec has it, every valid flag is 0, and buffer memory and
parameters are unchanged (decision D19 of the spec). -/
def Obligations.ResetApplied : Prop :=
  ∀ (s : State) (rest : List HostOp), s.inbox = .reset 0 :: rest → ∃ t, step s = .next t
    ∧ t.cr = { fmt := 0, width := 0, height := 0, pitch := 0, base := 0, bX := 0, bY := 0, op0 := 0, op1 := 0, op2 := 0 }
    ∧ t.crCmd = none
    ∧ t.status = { phase := .none, err := .none, histv := false, statv := false, decv := false, xv := false }
    ∧ t.einfo = 0 ∧ t.hs.cmd = 0 ∧ t.hs.bY = 0 ∧ t.hs.bX = 0 ∧ t.hs.step = .dispatch
    ∧ t.mem = s.mem ∧ t.params = s.params ∧ t.inbox = rest

/-- An idle core keeps all state (R365). With no command running, none pending and nothing asked by the host, a step
changes nothing (decision D17 of the spec). -/
def Obligations.IdleKeepsState : Prop :=
  ∀ s : State, Ready s → s.crCmd = none → s.inbox = [] → step s = .next s

/-- A step runs the decoded command (46_commands.md section 1, 30_encoding.md section 8). With a command pending, none
running and no reset due, the step is exec of the command that the code decodes to (the pending command as a step of
its own is log entry 5). -/
def Obligations.StepRunsCommand : Prop :=
  ∀ (s : State) (code : Nibble) (i : Instr), ¬ resetNow s → Ready s → s.crCmd = some code →
    decodeInstr .command [code.setWidth 8] = .ok i → step s = exec i s

/-- A step runs the decoded block (20_memory.md section 3, 44_classifier.md section 1, 46_commands.md section 2). While
a CLASSIFY at DISPATCH within bounds or a DECODE fetches a block and no reset is due, when the bytes at the address
of rule R62 decode to a well-formed instruction i, the step is exec of i at that state (a reset still to come is one
step nearer) (the step per block is log entry 9; the clause on a reset still to come, one step nearer, is the
model's own, log entry 14). -/
def Obligations.StepRunsBlock : Prop :=
  ∀ (s : State) (n : Nat) (i : Instr), ¬ resetNow s → Dispatching s ∨ Decoding s → nblk? s.cr = some n → i.wellFormed = true →
    decodeInstr (.block s.cr.fmt) (memBytes s.mem
      (if s.hs.cmd = 1 then blockAddr s.cr n s.hs.bY.toNat s.hs.bX.toNat else blockAddr s.cr n s.cr.bY.toNat s.cr.bX.toNat) n) = .ok i →
    step s = exec i (tickReset s) ∧ (noResetNext s → step s = exec i s)

/-- A few words decode as the spec says (10_state.md section 5, 30_encoding.md section 2, 30_encoding.md section 7,
30_encoding.md section 8, 42_bc6h.md section 2, 42_bc6h.md section 3, 43_bc7.md section 2, 43_bc7.md section 3). A
word for each of the ten format tags, with a BC6H mode of the 2-bit and one of the 5-bit prefix, a reserved BC6H
block, two BC7 modes and the reserved BC7 block, and for a command, the illegal code 0 and an illegal code from 8
on, each written out from the spec, decodes to its instruction with every field; tag 0 is refused. -/
def Obligations.DecodeWords : Prop :=
  decodeBlock 1 [0xFF, 0x7F, 0x00, 0x80, 0x67, 0x45, 0x23, 0x01]
      = .ok (.bc1 0x7FFF 0x8000 0x01234567)
    ∧ decodeBlock 2 [0x10, 0x32, 0x54, 0x76, 0x98, 0xBA, 0xDC, 0xFE, 0x00, 0xF8, 0x1F, 0x00, 0xE4, 0xE4, 0xE4, 0xE4]
      = .ok (.bc2 0xFEDCBA9876543210 0xF800 0x001F 0xE4E4E4E4)
    ∧ decodeBlock 3 [0x20, 0xC0, 0x88, 0xC6, 0xFA, 0x77, 0x39, 0x05, 0xFF, 0xFF, 0xE0, 0x07, 0x1B, 0x1B, 0x1B, 0x1B]
      = .ok (.bc3 32 192 0x053977FAC688 0xFFFF 0x07E0 0x1B1B1B1B)
    ∧ decodeBlock 4 [0x80, 0x7F, 0x88, 0xC6, 0xFA, 0x77, 0x39, 0x05]
      = .ok (.bc4u 0x80 0x7F 0x053977FAC688)
    ∧ decodeBlock 5 [0x80, 0x7F, 0x88, 0xC6, 0xFA, 0x77, 0x39, 0x05]
      = .ok (.bc4s 0x80 0x7F 0x053977FAC688)
    ∧ decodeBlock 6 [0x81, 0x7F, 0xBC, 0x9A, 0x78, 0x56, 0x34, 0x12, 0x7F, 0x81, 0xBC, 0x9A, 0x78, 0x56, 0x34, 0x12]
      = .ok (.bc5u 0x81 0x7F 0x123456789ABC 0x7F 0x81 0x123456789ABC)
    ∧ decodeBlock 7 [0x81, 0x7F, 0xBC, 0x9A, 0x78, 0x56, 0x34, 0x12, 0x7F, 0x81, 0xBC, 0x9A, 0x78, 0x56, 0x34, 0x12]
      = .ok (.bc5s 0x81 0x7F 0x123456789ABC 0x7F 0x81 0x123456789ABC)
    ∧ decodeBlock 8 [0x88, 0x47, 0x65, 0xBA, 0x64, 0xB9, 0x86, 0xD6, 0xF6, 0x30, 0xE6, 0x51, 0x9D, 0xF1, 0x50, 0x9D]
      = .ok (.bc6hM1 { rW := 0x23C, gW := 0xCA, bW := 0x25D, rX := 0xC, gX := 0x15, bX := 0xD, rY := 0x1B, gY := 0xC, bY := 0x16, rZ := 0x1, gZ := 0x10, bZ := 0xF, d := 0x11, idx := 0x27543C675479 })
    ∧ decodeBlock 9 [0xAF, 0x2E, 0xA0, 0x0E, 0x82, 0xC0, 0x79, 0x1B, 0x3C, 0xD8, 0x72, 0x1C, 0xB6, 0x50, 0xFA, 0x94]
      = .ok (.bc6hM14 { rW := 0x8175, gW := 0x3D40, bW := 0xC107, rX := 0x0, gX := 0xE, bX := 0x6, idx := 0x4A7D285B0E396C1E })
    ∧ decodeBlock 8 [0xF3, 0xFF, 0xFF, 0xFF, 0xFF, 0xFF, 0xFF, 0xFF, 0xFF, 0xFF, 0xFF, 0xFF, 0xFF, 0xFF, 0xFF, 0xFF]
      = .ok (.bc6hRsvd13 0x7FFFFFFFFFFFFFFFFFFFFFFFFFFFFFF)
    ∧ decodeBlock 10 [0xCB, 0x91, 0x15, 0x3C, 0xCA, 0xD6, 0xEC, 0x89, 0x1A, 0xA4, 0x60, 0x8E, 0x57, 0x31, 0x87, 0x57]
      = .ok (.bc7M0 { part := 5, rot := 0, isel := 0, r := #v[14, 8, 12, 10, 0, 14], g := #v[1, 5, 6, 11, 6, 6], b := #v[15, 4, 4, 13, 0, 2], a := Vector.replicate 6 0, p := #v[1, 0, 1, 0, 0, 0], idx := 0xAF0E62AF1CC, idx2 := 0x0 })
    ∧ decodeBlock 10 [0x40, 0x72, 0x44, 0xF2, 0x6B, 0xD8, 0xA4, 0xF1, 0x9C, 0xFC, 0x52, 0xB8, 0x1E, 0x74, 0xDA, 0x30]
      = .ok (.bc7M6 { part := 0, rot := 0, isel := 0, r := #v[100, 17], g := #v[18, 63], b := #v[13, 54], a := #v[82, 113], p := #v[1, 0], idx := 0x186D3A0F5C297E4E, idx2 := 0x0 })
    ∧ decodeBlock 10 [0x00, 0xFF, 0xFF, 0xFF, 0xFF, 0xFF, 0xFF, 0xFF, 0xFF, 0xFF, 0xFF, 0xFF, 0xFF, 0xFF, 0xFF, 0xFF]
      = .ok (.bc7Rsvd 0xFFFFFFFFFFFFFFFFFFFFFFFFFFFFFF)
    ∧ decodeInstr .command [0x25] = .ok .sext
    ∧ decodeInstr .command [0xF0] = .ok .cmdIllegal0
    ∧ decodeInstr .command [9] = .ok (.cmdIllegal8to15 9)
    ∧ decodeBlock 0 [0, 0, 0, 0, 0, 0, 0, 0] = .error .unsupportedFormat

/-- Decode inverts encode: BC1 to BC5 and the commands (30_encoding.md section 2, 30_encoding.md section 8). For every
well-formed instruction of the formats without a mode prefix and for every well-formed command, decoding its
encoding under each of its sources gives it back. -/
def Obligations.RoundTripPlain : Prop :=
  ∀ i : Instr, i.wellFormed = true → (∀ tag ∈ tagsOf i, tag.toNat ≤ 7) →
    ∀ src ∈ sourcesOf i, decodeInstr src (encode i) = .ok i

/-- Decode inverts encode: BC6H (42_bc6h.md section 2, 40_extract_fixup.md section 4). For every BC6H instruction, the
fourteen modes with every operand value and the four reserved kinds, decoding its encoding under BC6HU and under
BC6HS gives it back. -/
def Obligations.RoundTripBc6h : Prop :=
  ∀ i : Instr, tagsOf i = [8, 9] → ∀ src ∈ sourcesOf i, decodeInstr src (encode i) = .ok i

/-- Decode inverts encode: BC7 (43_bc7.md section 2, 40_extract_fixup.md section 4). For every BC7 instruction, the
eight modes with every operand value and the reserved kind, decoding its encoding gives it back. -/
def Obligations.RoundTripBc7 : Prop :=
  ∀ i : Instr, tagsOf i = [10] → ∀ src ∈ sourcesOf i, decodeInstr src (encode i) = .ok i

/-- Every block is exactly one instruction (30_encoding.md section 1, 42_bc6h.md section 3, 43_bc7.md section 3). Under
every supported tag every byte pattern of the right length decodes to a well-formed instruction selected under that
tag, and encoding it gives the same bytes: no bit of a block is dropped and no pattern is refused. -/
def Obligations.EncodeInvertsDecode : Prop :=
  ∀ (fmt : Format) (bytes : List Byte), bytes.length = fmt.nblk →
    ∃ i, decodeBlock fmt.tag bytes = .ok i ∧ i.wellFormed = true ∧ fmt.tag ∈ tagsOf i ∧ encode i = bytes

/-- The ten format tags, and exactly the reserved encodings are reserved (10_state.md section 5, 30_encoding.md section
1, 30_encoding.md section 7). The tags 1 to 10 name BC1, BC2, BC3, BC4U, BC4S, BC5U, BC5S, BC6HU, BC6HS, BC7 in this
order, with blocks of 8, 16, 16, 8, 8, 16, 16, 16, 16, 16 bytes: under such a tag a block of that length is decoded
by that format's layout, read from the least significant byte on, and any other length is refused; its kinds are
those of that format alone. The decoder refuses by name exactly the tags 0 and 11 to 15, whatever the bytes; a BC6H
block decodes to a reserved kind exactly when B[4:0] is that pattern, a BC7 block exactly when B[7:0] = 0, and the
other bits ride along unexamined; BC6HU and BC6HS blocks decode alike. -/
def Obligations.ReservedEncodings : Prop :=
  (∀ (tag : Nibble) (bytes : List Byte),
    decodeBlock tag bytes = .error .unsupportedFormat ↔ tag = 0 ∨ 11 ≤ tag.toNat)
  ∧ (∀ B : BitVec 128,
    (decodeBits .bc6hu B = .bc6hRsvd13 (B.extractLsb' 5 123) ↔ B.extractLsb' 0 5 = 0b10011#5)
    ∧ (decodeBits .bc6hu B = .bc6hRsvd17 (B.extractLsb' 5 123) ↔ B.extractLsb' 0 5 = 0b10111#5)
    ∧ (decodeBits .bc6hu B = .bc6hRsvd1B (B.extractLsb' 5 123) ↔ B.extractLsb' 0 5 = 0b11011#5)
    ∧ (decodeBits .bc6hu B = .bc6hRsvd1F (B.extractLsb' 5 123) ↔ B.extractLsb' 0 5 = 0b11111#5)
    ∧ (decodeBits .bc7 B = .bc7Rsvd (B.extractLsb' 8 120) ↔ B.extractLsb' 0 8 = 0#8)
    ∧ decodeBits .bc6hs B = decodeBits .bc6hu B)
  ∧ (∀ r ∈ ([(1, .bc1, 8), (2, .bc2, 16), (3, .bc3, 16), (4, .bc4u, 8), (5, .bc4s, 8), (6, .bc5u, 16), (7, .bc5s, 16),
      (8, .bc6hu, 16), (9, .bc6hs, 16), (10, .bc7, 16)] : List (Nibble × Format × Nat)),
    Format.ofTag r.1 = some r.2.1 ∧ r.2.1.tag = r.1 ∧ r.2.1.nblk = r.2.2
    ∧ (∀ bytes : List Byte, bytes.length = r.2.2 → decodeBlock r.1 bytes = .ok (decodeBits r.2.1
        (BitVec.ofNat 128 ((List.range bytes.length).map fun i => (bytes.getD i 0).toNat * 2 ^ (8 * i)).sum)))
    ∧ (∀ bytes : List Byte, bytes.length ≠ r.2.2 → decodeBlock r.1 bytes = .error .wrongLength)
    ∧ ∀ B : BitVec 128, tagsOf (decodeBits r.2.1 B) = if r.1 = 8 ∨ r.1 = 9 then [8, 9] else [r.1])
  ∧ (∀ B : BitVec 128,
    (∃ a b c, decodeBits .bc1 B = .bc1 a b c) ∧ (∃ a b c d, decodeBits .bc2 B = .bc2 a b c d)
    ∧ (∃ a b c d e f, decodeBits .bc3 B = .bc3 a b c d e f) ∧ (∃ a b c, decodeBits .bc4u B = .bc4u a b c)
    ∧ (∃ a b c, decodeBits .bc4s B = .bc4s a b c) ∧ (∃ a b c d e f, decodeBits .bc5u B = .bc5u a b c d e f)
    ∧ (∃ a b c d e f, decodeBits .bc5s B = .bc5s a b c d e f))

/-- Every field of BC6H modes 1 to 6 is read from its bits (42_bc6h.md section 2, 30_encoding.md section 3). For every
block with the prefix of mode m = 1 to 6, the decoder gives mode m with each field assembled from the block bits as
the mode's table says, D (where the mode has it) and IDX included. -/
def Obligations.Bc6hFieldsModes1To6 : Prop :=
  ∀ B : BitVec 128,
    (B.extractLsb' 0 2 = 0b00#2 → decodeBits .bc6hu B = .bc6hM1
      { rW := B.extractLsb' 5 10, gW := B.extractLsb' 15 10, bW := B.extractLsb' 25 10,
        rX := B.extractLsb' 35 5, gX := B.extractLsb' 45 5, bX := B.extractLsb' 55 5,
        rY := B.extractLsb' 65 5, gY := (B.extractLsb' 41 4).setWidth 5 ||| ((B.extractLsb' 2 1).setWidth 5 <<< 4), bY := (B.extractLsb' 61 4).setWidth 5 ||| ((B.extractLsb' 3 1).setWidth 5 <<< 4),
        rZ := B.extractLsb' 71 5, gZ := (B.extractLsb' 51 4).setWidth 5 ||| ((B.extractLsb' 40 1).setWidth 5 <<< 4), bZ := (B.extractLsb' 50 1).setWidth 5 ||| ((B.extractLsb' 60 1).setWidth 5 <<< 1) ||| ((B.extractLsb' 70 1).setWidth 5 <<< 2) ||| ((B.extractLsb' 76 1).setWidth 5 <<< 3) ||| ((B.extractLsb' 4 1).setWidth 5 <<< 4),
        d := B.extractLsb' 77 5, idx := B.extractLsb' 82 46 })
    ∧ (B.extractLsb' 0 2 = 0b01#2 → decodeBits .bc6hu B = .bc6hM2
      { rW := B.extractLsb' 5 7, gW := B.extractLsb' 15 7, bW := B.extractLsb' 25 7,
        rX := B.extractLsb' 35 6, gX := B.extractLsb' 45 6, bX := B.extractLsb' 55 6,
        rY := B.extractLsb' 65 6, gY := (B.extractLsb' 41 4).setWidth 6 ||| ((B.extractLsb' 24 1).setWidth 6 <<< 4) ||| ((B.extractLsb' 2 1).setWidth 6 <<< 5), bY := (B.extractLsb' 61 4).setWidth 6 ||| ((B.extractLsb' 14 1).setWidth 6 <<< 4) ||| ((B.extractLsb' 22 1).setWidth 6 <<< 5),
        rZ := B.extractLsb' 71 6, gZ := (B.extractLsb' 51 4).setWidth 6 ||| ((B.extractLsb' 3 2).setWidth 6 <<< 4), bZ := (B.extractLsb' 12 2).setWidth 6 ||| ((B.extractLsb' 23 1).setWidth 6 <<< 2) ||| ((B.extractLsb' 32 1).setWidth 6 <<< 3) ||| ((B.extractLsb' 34 1).setWidth 6 <<< 4) ||| ((B.extractLsb' 33 1).setWidth 6 <<< 5),
        d := B.extractLsb' 77 5, idx := B.extractLsb' 82 46 })
    ∧ (B.extractLsb' 0 5 = 0b00010#5 → decodeBits .bc6hu B = .bc6hM3
      { rW := (B.extractLsb' 5 10).setWidth 11 ||| ((B.extractLsb' 40 1).setWidth 11 <<< 10), gW := (B.extractLsb' 15 10).setWidth 11 ||| ((B.extractLsb' 49 1).setWidth 11 <<< 10), bW := (B.extractLsb' 25 10).setWidth 11 ||| ((B.extractLsb' 59 1).setWidth 11 <<< 10),
        rX := B.extractLsb' 35 5, gX := B.extractLsb' 45 4, bX := B.extractLsb' 55 4,
        rY := B.extractLsb' 65 5, gY := B.extractLsb' 41 4, bY := B.extractLsb' 61 4,
        rZ := B.extractLsb' 71 5, gZ := B.extractLsb' 51 4, bZ := (B.extractLsb' 50 1).setWidth 4 ||| ((B.extractLsb' 60 1).setWidth 4 <<< 1) ||| ((B.extractLsb' 70 1).setWidth 4 <<< 2) ||| ((B.extractLsb' 76 1).setWidth 4 <<< 3),
        d := B.extractLsb' 77 5, idx := B.extractLsb' 82 46 })
    ∧ (B.extractLsb' 0 5 = 0b00110#5 → decodeBits .bc6hu B = .bc6hM4
      { rW := (B.extractLsb' 5 10).setWidth 11 ||| ((B.extractLsb' 39 1).setWidth 11 <<< 10), gW := (B.extractLsb' 15 10).setWidth 11 ||| ((B.extractLsb' 50 1).setWidth 11 <<< 10), bW := (B.extractLsb' 25 10).setWidth 11 ||| ((B.extractLsb' 59 1).setWidth 11 <<< 10),
        rX := B.extractLsb' 35 4, gX := B.extractLsb' 45 5, bX := B.extractLsb' 55 4,
        rY := B.extractLsb' 65 4, gY := (B.extractLsb' 41 4).setWidth 5 ||| ((B.extractLsb' 75 1).setWidth 5 <<< 4), bY := B.extractLsb' 61 4,
        rZ := B.extractLsb' 71 4, gZ := (B.extractLsb' 51 4).setWidth 5 ||| ((B.extractLsb' 40 1).setWidth 5 <<< 4), bZ := (B.extractLsb' 69 1).setWidth 4 ||| ((B.extractLsb' 60 1).setWidth 4 <<< 1) ||| ((B.extractLsb' 70 1).setWidth 4 <<< 2) ||| ((B.extractLsb' 76 1).setWidth 4 <<< 3),
        d := B.extractLsb' 77 5, idx := B.extractLsb' 82 46 })
    ∧ (B.extractLsb' 0 5 = 0b01010#5 → decodeBits .bc6hu B = .bc6hM5
      { rW := (B.extractLsb' 5 10).setWidth 11 ||| ((B.extractLsb' 39 1).setWidth 11 <<< 10), gW := (B.extractLsb' 15 10).setWidth 11 ||| ((B.extractLsb' 49 1).setWidth 11 <<< 10), bW := (B.extractLsb' 25 10).setWidth 11 ||| ((B.extractLsb' 60 1).setWidth 11 <<< 10),
        rX := B.extractLsb' 35 4, gX := B.extractLsb' 45 4, bX := B.extractLsb' 55 5,
        rY := B.extractLsb' 65 4, gY := B.extractLsb' 41 4, bY := (B.extractLsb' 61 4).setWidth 5 ||| ((B.extractLsb' 40 1).setWidth 5 <<< 4),
        rZ := B.extractLsb' 71 4, gZ := B.extractLsb' 51 4, bZ := (B.extractLsb' 50 1).setWidth 5 ||| ((B.extractLsb' 69 2).setWidth 5 <<< 1) ||| ((B.extractLsb' 76 1).setWidth 5 <<< 3) ||| ((B.extractLsb' 75 1).setWidth 5 <<< 4),
        d := B.extractLsb' 77 5, idx := B.extractLsb' 82 46 })
    ∧ (B.extractLsb' 0 5 = 0b01110#5 → decodeBits .bc6hu B = .bc6hM6
      { rW := B.extractLsb' 5 9, gW := B.extractLsb' 15 9, bW := B.extractLsb' 25 9,
        rX := B.extractLsb' 35 5, gX := B.extractLsb' 45 5, bX := B.extractLsb' 55 5,
        rY := B.extractLsb' 65 5, gY := (B.extractLsb' 41 4).setWidth 5 ||| ((B.extractLsb' 24 1).setWidth 5 <<< 4), bY := (B.extractLsb' 61 4).setWidth 5 ||| ((B.extractLsb' 14 1).setWidth 5 <<< 4),
        rZ := B.extractLsb' 71 5, gZ := (B.extractLsb' 51 4).setWidth 5 ||| ((B.extractLsb' 40 1).setWidth 5 <<< 4), bZ := (B.extractLsb' 50 1).setWidth 5 ||| ((B.extractLsb' 60 1).setWidth 5 <<< 1) ||| ((B.extractLsb' 70 1).setWidth 5 <<< 2) ||| ((B.extractLsb' 76 1).setWidth 5 <<< 3) ||| ((B.extractLsb' 34 1).setWidth 5 <<< 4),
        d := B.extractLsb' 77 5, idx := B.extractLsb' 82 46 })

/-- Every field of BC6H modes 7 to 14 is read from its bits (42_bc6h.md section 2, 30_encoding.md section 3). For every
block with the prefix of mode m = 7 to 14, the decoder gives mode m with each field assembled from the block bits as
the mode's table says, D (where the mode has it) and IDX included. -/
def Obligations.Bc6hFieldsModes7To14 : Prop :=
  ∀ B : BitVec 128,
    (B.extractLsb' 0 5 = 0b10010#5 → decodeBits .bc6hu B = .bc6hM7
      { rW := B.extractLsb' 5 8, gW := B.extractLsb' 15 8, bW := B.extractLsb' 25 8,
        rX := B.extractLsb' 35 6, gX := B.extractLsb' 45 5, bX := B.extractLsb' 55 5,
        rY := B.extractLsb' 65 6, gY := (B.extractLsb' 41 4).setWidth 5 ||| ((B.extractLsb' 24 1).setWidth 5 <<< 4), bY := (B.extractLsb' 61 4).setWidth 5 ||| ((B.extractLsb' 14 1).setWidth 5 <<< 4),
        rZ := B.extractLsb' 71 6, gZ := (B.extractLsb' 51 4).setWidth 5 ||| ((B.extractLsb' 13 1).setWidth 5 <<< 4), bZ := (B.extractLsb' 50 1).setWidth 5 ||| ((B.extractLsb' 60 1).setWidth 5 <<< 1) ||| ((B.extractLsb' 23 1).setWidth 5 <<< 2) ||| ((B.extractLsb' 33 2).setWidth 5 <<< 3),
        d := B.extractLsb' 77 5, idx := B.extractLsb' 82 46 })
    ∧ (B.extractLsb' 0 5 = 0b10110#5 → decodeBits .bc6hu B = .bc6hM8
      { rW := B.extractLsb' 5 8, gW := B.extractLsb' 15 8, bW := B.extractLsb' 25 8,
        rX := B.extractLsb' 35 5, gX := B.extractLsb' 45 6, bX := B.extractLsb' 55 5,
        rY := B.extractLsb' 65 5, gY := (B.extractLsb' 41 4).setWidth 6 ||| ((B.extractLsb' 24 1).setWidth 6 <<< 4) ||| ((B.extractLsb' 23 1).setWidth 6 <<< 5), bY := (B.extractLsb' 61 4).setWidth 5 ||| ((B.extractLsb' 14 1).setWidth 5 <<< 4),
        rZ := B.extractLsb' 71 5, gZ := (B.extractLsb' 51 4).setWidth 6 ||| ((B.extractLsb' 40 1).setWidth 6 <<< 4) ||| ((B.extractLsb' 33 1).setWidth 6 <<< 5), bZ := (B.extractLsb' 13 1).setWidth 5 ||| ((B.extractLsb' 60 1).setWidth 5 <<< 1) ||| ((B.extractLsb' 70 1).setWidth 5 <<< 2) ||| ((B.extractLsb' 76 1).setWidth 5 <<< 3) ||| ((B.extractLsb' 34 1).setWidth 5 <<< 4),
        d := B.extractLsb' 77 5, idx := B.extractLsb' 82 46 })
    ∧ (B.extractLsb' 0 5 = 0b11010#5 → decodeBits .bc6hu B = .bc6hM9
      { rW := B.extractLsb' 5 8, gW := B.extractLsb' 15 8, bW := B.extractLsb' 25 8,
        rX := B.extractLsb' 35 5, gX := B.extractLsb' 45 5, bX := B.extractLsb' 55 6,
        rY := B.extractLsb' 65 5, gY := (B.extractLsb' 41 4).setWidth 5 ||| ((B.extractLsb' 24 1).setWidth 5 <<< 4), bY := (B.extractLsb' 61 4).setWidth 6 ||| ((B.extractLsb' 14 1).setWidth 6 <<< 4) ||| ((B.extractLsb' 23 1).setWidth 6 <<< 5),
        rZ := B.extractLsb' 71 5, gZ := (B.extractLsb' 51 4).setWidth 5 ||| ((B.extractLsb' 40 1).setWidth 5 <<< 4), bZ := (B.extractLsb' 50 1).setWidth 6 ||| ((B.extractLsb' 13 1).setWidth 6 <<< 1) ||| ((B.extractLsb' 70 1).setWidth 6 <<< 2) ||| ((B.extractLsb' 76 1).setWidth 6 <<< 3) ||| ((B.extractLsb' 34 1).setWidth 6 <<< 4) ||| ((B.extractLsb' 33 1).setWidth 6 <<< 5),
        d := B.extractLsb' 77 5, idx := B.extractLsb' 82 46 })
    ∧ (B.extractLsb' 0 5 = 0b11110#5 → decodeBits .bc6hu B = .bc6hM10
      { rW := B.extractLsb' 5 6, gW := B.extractLsb' 15 6, bW := B.extractLsb' 25 6,
        rX := B.extractLsb' 35 6, gX := B.extractLsb' 45 6, bX := B.extractLsb' 55 6,
        rY := B.extractLsb' 65 6, gY := (B.extractLsb' 41 4).setWidth 6 ||| ((B.extractLsb' 24 1).setWidth 6 <<< 4) ||| ((B.extractLsb' 21 1).setWidth 6 <<< 5), bY := (B.extractLsb' 61 4).setWidth 6 ||| ((B.extractLsb' 14 1).setWidth 6 <<< 4) ||| ((B.extractLsb' 22 1).setWidth 6 <<< 5),
        rZ := B.extractLsb' 71 6, gZ := (B.extractLsb' 51 4).setWidth 6 ||| ((B.extractLsb' 11 1).setWidth 6 <<< 4) ||| ((B.extractLsb' 31 1).setWidth 6 <<< 5), bZ := (B.extractLsb' 12 2).setWidth 6 ||| ((B.extractLsb' 23 1).setWidth 6 <<< 2) ||| ((B.extractLsb' 32 1).setWidth 6 <<< 3) ||| ((B.extractLsb' 34 1).setWidth 6 <<< 4) ||| ((B.extractLsb' 33 1).setWidth 6 <<< 5),
        d := B.extractLsb' 77 5, idx := B.extractLsb' 82 46 })
    ∧ (B.extractLsb' 0 5 = 0b00011#5 → decodeBits .bc6hu B = .bc6hM11
      { rW := B.extractLsb' 5 10, gW := B.extractLsb' 15 10, bW := B.extractLsb' 25 10,
        rX := B.extractLsb' 35 10, gX := B.extractLsb' 45 10, bX := B.extractLsb' 55 10,
        idx := B.extractLsb' 65 63 })
    ∧ (B.extractLsb' 0 5 = 0b00111#5 → decodeBits .bc6hu B = .bc6hM12
      { rW := (B.extractLsb' 5 10).setWidth 11 ||| ((B.extractLsb' 44 1).setWidth 11 <<< 10), gW := (B.extractLsb' 15 10).setWidth 11 ||| ((B.extractLsb' 54 1).setWidth 11 <<< 10), bW := (B.extractLsb' 25 10).setWidth 11 ||| ((B.extractLsb' 64 1).setWidth 11 <<< 10),
        rX := B.extractLsb' 35 9, gX := B.extractLsb' 45 9, bX := B.extractLsb' 55 9,
        idx := B.extractLsb' 65 63 })
    ∧ (B.extractLsb' 0 5 = 0b01011#5 → decodeBits .bc6hu B = .bc6hM13
      { rW := (B.extractLsb' 5 10).setWidth 12 ||| ((B.extractLsb' 44 1).setWidth 12 <<< 10) ||| ((B.extractLsb' 43 1).setWidth 12 <<< 11), gW := (B.extractLsb' 15 10).setWidth 12 ||| ((B.extractLsb' 54 1).setWidth 12 <<< 10) ||| ((B.extractLsb' 53 1).setWidth 12 <<< 11), bW := (B.extractLsb' 25 10).setWidth 12 ||| ((B.extractLsb' 64 1).setWidth 12 <<< 10) ||| ((B.extractLsb' 63 1).setWidth 12 <<< 11),
        rX := B.extractLsb' 35 8, gX := B.extractLsb' 45 8, bX := B.extractLsb' 55 8,
        idx := B.extractLsb' 65 63 })
    ∧ (B.extractLsb' 0 5 = 0b01111#5 → decodeBits .bc6hu B = .bc6hM14
      { rW := (B.extractLsb' 5 10).setWidth 16 ||| ((B.extractLsb' 44 1).setWidth 16 <<< 10) ||| ((B.extractLsb' 43 1).setWidth 16 <<< 11) ||| ((B.extractLsb' 42 1).setWidth 16 <<< 12) ||| ((B.extractLsb' 41 1).setWidth 16 <<< 13) ||| ((B.extractLsb' 40 1).setWidth 16 <<< 14) ||| ((B.extractLsb' 39 1).setWidth 16 <<< 15), gW := (B.extractLsb' 15 10).setWidth 16 ||| ((B.extractLsb' 54 1).setWidth 16 <<< 10) ||| ((B.extractLsb' 53 1).setWidth 16 <<< 11) ||| ((B.extractLsb' 52 1).setWidth 16 <<< 12) ||| ((B.extractLsb' 51 1).setWidth 16 <<< 13) ||| ((B.extractLsb' 50 1).setWidth 16 <<< 14) ||| ((B.extractLsb' 49 1).setWidth 16 <<< 15), bW := (B.extractLsb' 25 10).setWidth 16 ||| ((B.extractLsb' 64 1).setWidth 16 <<< 10) ||| ((B.extractLsb' 63 1).setWidth 16 <<< 11) ||| ((B.extractLsb' 62 1).setWidth 16 <<< 12) ||| ((B.extractLsb' 61 1).setWidth 16 <<< 13) ||| ((B.extractLsb' 60 1).setWidth 16 <<< 14) ||| ((B.extractLsb' 59 1).setWidth 16 <<< 15),
        rX := B.extractLsb' 35 4, gX := B.extractLsb' 45 4, bX := B.extractLsb' 55 4,
        idx := B.extractLsb' 65 63 })

/-- Every field of BC7 modes 0 to 7 is read from its bits (43_bc7.md section 2, 30_encoding.md section 4). For every
block with the prefix of mode m = 0 to 7, the decoder gives mode m with each field read from the block bits of the
mode's table; a field the mode does not have is empty. -/
def Obligations.Bc7FieldsModes0To7 : Prop :=
  ∀ B : BitVec 128,
    (B.extractLsb' 0 1 = 1#1 → decodeBits .bc7 B = .bc7M0
      { part := B.extractLsb' 1 4,
        rot := 0,
        isel := 0,
        r := #v[B.extractLsb' 5 4, B.extractLsb' 9 4, B.extractLsb' 13 4, B.extractLsb' 17 4, B.extractLsb' 21 4, B.extractLsb' 25 4],
        g := #v[B.extractLsb' 29 4, B.extractLsb' 33 4, B.extractLsb' 37 4, B.extractLsb' 41 4, B.extractLsb' 45 4, B.extractLsb' 49 4],
        b := #v[B.extractLsb' 53 4, B.extractLsb' 57 4, B.extractLsb' 61 4, B.extractLsb' 65 4, B.extractLsb' 69 4, B.extractLsb' 73 4],
        a := Vector.replicate 6 0,
        p := #v[B.extractLsb' 77 1, B.extractLsb' 78 1, B.extractLsb' 79 1, B.extractLsb' 80 1, B.extractLsb' 81 1, B.extractLsb' 82 1],
        idx := B.extractLsb' 83 45,
        idx2 := 0 })
    ∧ (B.extractLsb' 0 2 = 2#2 → decodeBits .bc7 B = .bc7M1
      { part := B.extractLsb' 2 6,
        rot := 0,
        isel := 0,
        r := #v[B.extractLsb' 8 6, B.extractLsb' 14 6, B.extractLsb' 20 6, B.extractLsb' 26 6],
        g := #v[B.extractLsb' 32 6, B.extractLsb' 38 6, B.extractLsb' 44 6, B.extractLsb' 50 6],
        b := #v[B.extractLsb' 56 6, B.extractLsb' 62 6, B.extractLsb' 68 6, B.extractLsb' 74 6],
        a := Vector.replicate 4 0,
        p := #v[B.extractLsb' 80 1, B.extractLsb' 81 1],
        idx := B.extractLsb' 82 46,
        idx2 := 0 })
    ∧ (B.extractLsb' 0 3 = 4#3 → decodeBits .bc7 B = .bc7M2
      { part := B.extractLsb' 3 6,
        rot := 0,
        isel := 0,
        r := #v[B.extractLsb' 9 5, B.extractLsb' 14 5, B.extractLsb' 19 5, B.extractLsb' 24 5, B.extractLsb' 29 5, B.extractLsb' 34 5],
        g := #v[B.extractLsb' 39 5, B.extractLsb' 44 5, B.extractLsb' 49 5, B.extractLsb' 54 5, B.extractLsb' 59 5, B.extractLsb' 64 5],
        b := #v[B.extractLsb' 69 5, B.extractLsb' 74 5, B.extractLsb' 79 5, B.extractLsb' 84 5, B.extractLsb' 89 5, B.extractLsb' 94 5],
        a := Vector.replicate 6 0,
        p := #v[],
        idx := B.extractLsb' 99 29,
        idx2 := 0 })
    ∧ (B.extractLsb' 0 4 = 8#4 → decodeBits .bc7 B = .bc7M3
      { part := B.extractLsb' 4 6,
        rot := 0,
        isel := 0,
        r := #v[B.extractLsb' 10 7, B.extractLsb' 17 7, B.extractLsb' 24 7, B.extractLsb' 31 7],
        g := #v[B.extractLsb' 38 7, B.extractLsb' 45 7, B.extractLsb' 52 7, B.extractLsb' 59 7],
        b := #v[B.extractLsb' 66 7, B.extractLsb' 73 7, B.extractLsb' 80 7, B.extractLsb' 87 7],
        a := Vector.replicate 4 0,
        p := #v[B.extractLsb' 94 1, B.extractLsb' 95 1, B.extractLsb' 96 1, B.extractLsb' 97 1],
        idx := B.extractLsb' 98 30,
        idx2 := 0 })
    ∧ (B.extractLsb' 0 5 = 16#5 → decodeBits .bc7 B = .bc7M4
      { part := 0,
        rot := B.extractLsb' 5 2,
        isel := B.extractLsb' 7 1,
        r := #v[B.extractLsb' 8 5, B.extractLsb' 13 5],
        g := #v[B.extractLsb' 18 5, B.extractLsb' 23 5],
        b := #v[B.extractLsb' 28 5, B.extractLsb' 33 5],
        a := #v[B.extractLsb' 38 6, B.extractLsb' 44 6],
        p := #v[],
        idx := B.extractLsb' 50 31,
        idx2 := B.extractLsb' 81 47 })
    ∧ (B.extractLsb' 0 6 = 32#6 → decodeBits .bc7 B = .bc7M5
      { part := 0,
        rot := B.extractLsb' 6 2,
        isel := 0,
        r := #v[B.extractLsb' 8 7, B.extractLsb' 15 7],
        g := #v[B.extractLsb' 22 7, B.extractLsb' 29 7],
        b := #v[B.extractLsb' 36 7, B.extractLsb' 43 7],
        a := #v[B.extractLsb' 50 8, B.extractLsb' 58 8],
        p := #v[],
        idx := B.extractLsb' 66 31,
        idx2 := B.extractLsb' 97 31 })
    ∧ (B.extractLsb' 0 7 = 64#7 → decodeBits .bc7 B = .bc7M6
      { part := 0,
        rot := 0,
        isel := 0,
        r := #v[B.extractLsb' 7 7, B.extractLsb' 14 7],
        g := #v[B.extractLsb' 21 7, B.extractLsb' 28 7],
        b := #v[B.extractLsb' 35 7, B.extractLsb' 42 7],
        a := #v[B.extractLsb' 49 7, B.extractLsb' 56 7],
        p := #v[B.extractLsb' 63 1, B.extractLsb' 64 1],
        idx := B.extractLsb' 65 63,
        idx2 := 0 })
    ∧ (B.extractLsb' 0 8 = 128#8 → decodeBits .bc7 B = .bc7M7
      { part := B.extractLsb' 8 6,
        rot := 0,
        isel := 0,
        r := #v[B.extractLsb' 14 5, B.extractLsb' 19 5, B.extractLsb' 24 5, B.extractLsb' 29 5],
        g := #v[B.extractLsb' 34 5, B.extractLsb' 39 5, B.extractLsb' 44 5, B.extractLsb' 49 5],
        b := #v[B.extractLsb' 54 5, B.extractLsb' 59 5, B.extractLsb' 64 5, B.extractLsb' 69 5],
        a := #v[B.extractLsb' 74 5, B.extractLsb' 79 5, B.extractLsb' 84 5, B.extractLsb' 89 5],
        p := #v[B.extractLsb' 94 1, B.extractLsb' 95 1, B.extractLsb' 96 1, B.extractLsb' 97 1],
        idx := B.extractLsb' 98 30,
        idx2 := 0 })

/-- BC1 under DECODE (R162). A BC1 block under DECODE completes with the DR contents of rule R162, taken from the block
bits, every other DR register 0, DECV = 1, and nothing else changed. -/
def Obligations.Bc1Decoded : Prop :=
  ∀ (B : BitVec 128) (s : State), Decoding s →
    decodeBits .bc1 B = .bc1 (B.extractLsb' 0 16) (B.extractLsb' 16 16) (B.extractLsb' 32 32)
      ∧ exec (.bc1 (B.extractLsb' 0 16) (B.extractLsb' 16 16) (B.extractLsb' 32 32)) s = .next (Spec.delivered { DecodeResult.zero with
        c565 := #v[B.extractLsb' 0 16, B.extractLsb' 16 16]
        epraw := #v[#v[(B.extractLsb' 11 5).setWidth 16, (B.extractLsb' 5 6).setWidth 16, (B.extractLsb' 0 5).setWidth 16, 0],
          #v[(B.extractLsb' 27 5).setWidth 16, (B.extractLsb' 21 6).setWidth 16, (B.extractLsb' 16 5).setWidth 16, 0], #v[0, 0, 0, 0], #v[0, 0, 0, 0], #v[0, 0, 0, 0], #v[0, 0, 0, 0]]
        ep := #v[#v[(B.extractLsb' 11 5).setWidth 16, (B.extractLsb' 5 6).setWidth 16, (B.extractLsb' 0 5).setWidth 16, 0],
          #v[(B.extractLsb' 27 5).setWidth 16, (B.extractLsb' 21 6).setWidth 16, (B.extractLsb' 16 5).setWidth 16, 0], #v[0, 0, 0, 0], #v[0, 0, 0, 0], #v[0, 0, 0, 0], #v[0, 0, 0, 0]]
        ix0 := Vector.ofFn fun j => (B.extractLsb' (32 + 2 * j.val) 2).setWidth 4
        sub := if (B.extractLsb' 0 16).toNat ≤ (B.extractLsb' 16 16).toNat then 1 else 0 } s)

/-- BC2 under DECODE (R164). A BC2 block under DECODE completes with the DR contents of rule R164: the colour half, the
explicit alpha in IX1, SUB = 0 (SUB = 0 is decision D12 of the spec). -/
def Obligations.Bc2Decoded : Prop :=
  ∀ (B : BitVec 128) (s : State), Decoding s →
    decodeBits .bc2 B = .bc2 (B.extractLsb' 0 64) (B.extractLsb' 64 16) (B.extractLsb' 80 16) (B.extractLsb' 96 32)
      ∧ exec (.bc2 (B.extractLsb' 0 64) (B.extractLsb' 64 16) (B.extractLsb' 80 16) (B.extractLsb' 96 32)) s = .next (Spec.delivered { DecodeResult.zero with
        c565 := #v[B.extractLsb' 64 16, B.extractLsb' 80 16]
        epraw := #v[#v[(B.extractLsb' 75 5).setWidth 16, (B.extractLsb' 69 6).setWidth 16, (B.extractLsb' 64 5).setWidth 16, 0],
          #v[(B.extractLsb' 91 5).setWidth 16, (B.extractLsb' 85 6).setWidth 16, (B.extractLsb' 80 5).setWidth 16, 0], #v[0, 0, 0, 0], #v[0, 0, 0, 0], #v[0, 0, 0, 0], #v[0, 0, 0, 0]]
        ep := #v[#v[(B.extractLsb' 75 5).setWidth 16, (B.extractLsb' 69 6).setWidth 16, (B.extractLsb' 64 5).setWidth 16, 0],
          #v[(B.extractLsb' 91 5).setWidth 16, (B.extractLsb' 85 6).setWidth 16, (B.extractLsb' 80 5).setWidth 16, 0], #v[0, 0, 0, 0], #v[0, 0, 0, 0], #v[0, 0, 0, 0], #v[0, 0, 0, 0]]
        ix0 := Vector.ofFn fun j => (B.extractLsb' (96 + 2 * j.val) 2).setWidth 4
        ix1 := Vector.ofFn fun j => (B.extractLsb' (0 + 4 * j.val) 4).setWidth 4
        sub := 0 } s)

/-- BC3 under DECODE (R165). A BC3 block under DECODE completes with the DR contents of rule R165; SUB follows the
unsigned compare of the alpha endpoints, ties 6-value. -/
def Obligations.Bc3Decoded : Prop :=
  ∀ (B : BitVec 128) (s : State), Decoding s →
    decodeBits .bc3 B = .bc3 (B.extractLsb' 0 8) (B.extractLsb' 8 8) (B.extractLsb' 16 48) (B.extractLsb' 64 16) (B.extractLsb' 80 16) (B.extractLsb' 96 32)
      ∧ exec (.bc3 (B.extractLsb' 0 8) (B.extractLsb' 8 8) (B.extractLsb' 16 48) (B.extractLsb' 64 16) (B.extractLsb' 80 16) (B.extractLsb' 96 32)) s = .next (Spec.delivered { DecodeResult.zero with
        c565 := #v[B.extractLsb' 64 16, B.extractLsb' 80 16]
        epraw := #v[#v[(B.extractLsb' 75 5).setWidth 16, (B.extractLsb' 69 6).setWidth 16, (B.extractLsb' 64 5).setWidth 16, (B.extractLsb' 0 8).setWidth 16],
          #v[(B.extractLsb' 91 5).setWidth 16, (B.extractLsb' 85 6).setWidth 16, (B.extractLsb' 80 5).setWidth 16, (B.extractLsb' 8 8).setWidth 16], #v[0, 0, 0, 0], #v[0, 0, 0, 0], #v[0, 0, 0, 0], #v[0, 0, 0, 0]]
        ep := #v[#v[(B.extractLsb' 75 5).setWidth 16, (B.extractLsb' 69 6).setWidth 16, (B.extractLsb' 64 5).setWidth 16, (B.extractLsb' 0 8).setWidth 16],
          #v[(B.extractLsb' 91 5).setWidth 16, (B.extractLsb' 85 6).setWidth 16, (B.extractLsb' 80 5).setWidth 16, (B.extractLsb' 8 8).setWidth 16], #v[0, 0, 0, 0], #v[0, 0, 0, 0], #v[0, 0, 0, 0], #v[0, 0, 0, 0]]
        ix0 := Vector.ofFn fun j => (B.extractLsb' (96 + 2 * j.val) 2).setWidth 4
        ix1 := Vector.ofFn fun j => (B.extractLsb' (16 + 3 * j.val) 3).setWidth 4
        sub := if (B.extractLsb' 0 8).toNat > (B.extractLsb' 8 8).toNat then 0 else 1 } s)

/-- BC4U and BC4S under DECODE (R167, R169). A BC4 block under DECODE completes with the DR contents of rules R167
(unsigned, NDIV 255) and R169 (sign-extended, NDIV 127); SUB follows the compare in the format's signedness (slot 0
for the channel is decision D31 of the spec). -/
def Obligations.Bc4Decoded : Prop :=
  ∀ (B : BitVec 128) (s : State), Decoding s →
    (decodeBits .bc4u B = .bc4u (B.extractLsb' 0 8) (B.extractLsb' 8 8) (B.extractLsb' 16 48)
      ∧ exec (.bc4u (B.extractLsb' 0 8) (B.extractLsb' 8 8) (B.extractLsb' 16 48)) s = .next (Spec.delivered { DecodeResult.zero with
        epraw := #v[#v[(B.extractLsb' 0 8).setWidth 16, 0, 0, 0],
          #v[(B.extractLsb' 8 8).setWidth 16, 0, 0, 0], #v[0, 0, 0, 0], #v[0, 0, 0, 0], #v[0, 0, 0, 0], #v[0, 0, 0, 0]]
        ep := #v[#v[(B.extractLsb' 0 8).setWidth 16, 0, 0, 0],
          #v[(B.extractLsb' 8 8).setWidth 16, 0, 0, 0], #v[0, 0, 0, 0], #v[0, 0, 0, 0], #v[0, 0, 0, 0], #v[0, 0, 0, 0]]
        ix0 := Vector.ofFn fun j => (B.extractLsb' (16 + 3 * j.val) 3).setWidth 4
        ndiv := 255
        sub := if (B.extractLsb' 0 8).toNat > (B.extractLsb' 8 8).toNat then 0 else 1 } s))
    ∧ (decodeBits .bc4s B = .bc4s (B.extractLsb' 0 8) (B.extractLsb' 8 8) (B.extractLsb' 16 48)
      ∧ exec (.bc4s (B.extractLsb' 0 8) (B.extractLsb' 8 8) (B.extractLsb' 16 48)) s = .next (Spec.delivered { DecodeResult.zero with
        epraw := #v[#v[(B.extractLsb' 0 8).signExtend 16, 0, 0, 0],
          #v[(B.extractLsb' 8 8).signExtend 16, 0, 0, 0], #v[0, 0, 0, 0], #v[0, 0, 0, 0], #v[0, 0, 0, 0], #v[0, 0, 0, 0]]
        ep := #v[#v[(B.extractLsb' 0 8).signExtend 16, 0, 0, 0],
          #v[(B.extractLsb' 8 8).signExtend 16, 0, 0, 0], #v[0, 0, 0, 0], #v[0, 0, 0, 0], #v[0, 0, 0, 0], #v[0, 0, 0, 0]]
        ix0 := Vector.ofFn fun j => (B.extractLsb' (16 + 3 * j.val) 3).setWidth 4
        ndiv := 127
        sub := if (B.extractLsb' 0 8).toInt > (B.extractLsb' 8 8).toInt then 0 else 1 } s))

/-- BC5U and BC5S under DECODE (R171, R172). A BC5 block under DECODE completes with the DR contents of rules R171 and
R172: U in slot 0 and IX0, V in slot 1 and IX1, one sub-type flag each. -/
def Obligations.Bc5Decoded : Prop :=
  ∀ (B : BitVec 128) (s : State), Decoding s →
    (decodeBits .bc5u B = .bc5u (B.extractLsb' 0 8) (B.extractLsb' 8 8) (B.extractLsb' 16 48) (B.extractLsb' 64 8) (B.extractLsb' 72 8) (B.extractLsb' 80 48)
      ∧ exec (.bc5u (B.extractLsb' 0 8) (B.extractLsb' 8 8) (B.extractLsb' 16 48) (B.extractLsb' 64 8) (B.extractLsb' 72 8) (B.extractLsb' 80 48)) s = .next (Spec.delivered { DecodeResult.zero with
        epraw := #v[#v[(B.extractLsb' 0 8).setWidth 16, (B.extractLsb' 64 8).setWidth 16, 0, 0],
          #v[(B.extractLsb' 8 8).setWidth 16, (B.extractLsb' 72 8).setWidth 16, 0, 0], #v[0, 0, 0, 0], #v[0, 0, 0, 0], #v[0, 0, 0, 0], #v[0, 0, 0, 0]]
        ep := #v[#v[(B.extractLsb' 0 8).setWidth 16, (B.extractLsb' 64 8).setWidth 16, 0, 0],
          #v[(B.extractLsb' 8 8).setWidth 16, (B.extractLsb' 72 8).setWidth 16, 0, 0], #v[0, 0, 0, 0], #v[0, 0, 0, 0], #v[0, 0, 0, 0], #v[0, 0, 0, 0]]
        ix0 := Vector.ofFn fun j => (B.extractLsb' (16 + 3 * j.val) 3).setWidth 4
        ix1 := Vector.ofFn fun j => (B.extractLsb' (80 + 3 * j.val) 3).setWidth 4
        ndiv := 255
        sub := (if (B.extractLsb' 0 8).toNat > (B.extractLsb' 8 8).toNat then 0 else 1) + (if (B.extractLsb' 64 8).toNat > (B.extractLsb' 72 8).toNat then 0 else 2) } s))
    ∧ (decodeBits .bc5s B = .bc5s (B.extractLsb' 0 8) (B.extractLsb' 8 8) (B.extractLsb' 16 48) (B.extractLsb' 64 8) (B.extractLsb' 72 8) (B.extractLsb' 80 48)
      ∧ exec (.bc5s (B.extractLsb' 0 8) (B.extractLsb' 8 8) (B.extractLsb' 16 48) (B.extractLsb' 64 8) (B.extractLsb' 72 8) (B.extractLsb' 80 48)) s = .next (Spec.delivered { DecodeResult.zero with
        epraw := #v[#v[(B.extractLsb' 0 8).signExtend 16, (B.extractLsb' 64 8).signExtend 16, 0, 0],
          #v[(B.extractLsb' 8 8).signExtend 16, (B.extractLsb' 72 8).signExtend 16, 0, 0], #v[0, 0, 0, 0], #v[0, 0, 0, 0], #v[0, 0, 0, 0], #v[0, 0, 0, 0]]
        ep := #v[#v[(B.extractLsb' 0 8).signExtend 16, (B.extractLsb' 64 8).signExtend 16, 0, 0],
          #v[(B.extractLsb' 8 8).signExtend 16, (B.extractLsb' 72 8).signExtend 16, 0, 0], #v[0, 0, 0, 0], #v[0, 0, 0, 0], #v[0, 0, 0, 0], #v[0, 0, 0, 0]]
        ix0 := Vector.ofFn fun j => (B.extractLsb' (16 + 3 * j.val) 3).setWidth 4
        ix1 := Vector.ofFn fun j => (B.extractLsb' (80 + 3 * j.val) 3).setWidth 4
        ndiv := 127
        sub := (if (B.extractLsb' 0 8).toInt > (B.extractLsb' 8 8).toInt then 0 else 1) + (if (B.extractLsb' 64 8).toInt > (B.extractLsb' 72 8).toInt then 0 else 2) } s))

/-- BC6H modes 1 to 10 under DECODE (42_bc6h.md section 1). A two-subset BC6H block under DECODE completes with the DR
contents of rules R183 and R185: mode, NS = 1, shape, each component extended from its own width exactly under
BC6HS, indices unpacked with n = 3, p = 1, s = D; nothing else changes. -/
def Obligations.Bc6hTwoSubsetDecoded : Prop :=
  ∀ s : State, Decoding s →
    (∀ f : Bc6hTwo 10 5 5 5, exec (.bc6hM1 f) s = .next (Spec.delivered (Spec.bc6hTwoDr 1 (decide (s.cr.fmt = 9)) f) s))
    ∧ (∀ f : Bc6hTwo 7 6 6 6, exec (.bc6hM2 f) s = .next (Spec.delivered (Spec.bc6hTwoDr 2 (decide (s.cr.fmt = 9)) f) s))
    ∧ (∀ f : Bc6hTwo 11 5 4 4, exec (.bc6hM3 f) s = .next (Spec.delivered (Spec.bc6hTwoDr 3 (decide (s.cr.fmt = 9)) f) s))
    ∧ (∀ f : Bc6hTwo 11 4 5 4, exec (.bc6hM4 f) s = .next (Spec.delivered (Spec.bc6hTwoDr 4 (decide (s.cr.fmt = 9)) f) s))
    ∧ (∀ f : Bc6hTwo 11 4 4 5, exec (.bc6hM5 f) s = .next (Spec.delivered (Spec.bc6hTwoDr 5 (decide (s.cr.fmt = 9)) f) s))
    ∧ (∀ f : Bc6hTwo 9 5 5 5, exec (.bc6hM6 f) s = .next (Spec.delivered (Spec.bc6hTwoDr 6 (decide (s.cr.fmt = 9)) f) s))
    ∧ (∀ f : Bc6hTwo 8 6 5 5, exec (.bc6hM7 f) s = .next (Spec.delivered (Spec.bc6hTwoDr 7 (decide (s.cr.fmt = 9)) f) s))
    ∧ (∀ f : Bc6hTwo 8 5 6 5, exec (.bc6hM8 f) s = .next (Spec.delivered (Spec.bc6hTwoDr 8 (decide (s.cr.fmt = 9)) f) s))
    ∧ (∀ f : Bc6hTwo 8 5 5 6, exec (.bc6hM9 f) s = .next (Spec.delivered (Spec.bc6hTwoDr 9 (decide (s.cr.fmt = 9)) f) s))
    ∧ (∀ f : Bc6hTwo 6 6 6 6, exec (.bc6hM10 f) s = .next (Spec.delivered (Spec.bc6hTwoDr 10 (decide (s.cr.fmt = 9)) f) s))

/-- BC6H modes 11 to 14 under DECODE (42_bc6h.md section 1). A one-subset BC6H block under DECODE completes with the DR
contents of rules R183 and R185: NS = 0, shape 0, two endpoints, indices unpacked with n = 4, p = 0, s = 0; nothing
else changes. -/
def Obligations.Bc6hOneSubsetDecoded : Prop :=
  ∀ s : State, Decoding s →
    (∀ f : Bc6hOne 10 10, exec (.bc6hM11 f) s = .next (Spec.delivered (Spec.bc6hOneDr 11 (decide (s.cr.fmt = 9)) f) s))
    ∧ (∀ f : Bc6hOne 11 9, exec (.bc6hM12 f) s = .next (Spec.delivered (Spec.bc6hOneDr 12 (decide (s.cr.fmt = 9)) f) s))
    ∧ (∀ f : Bc6hOne 12 8, exec (.bc6hM13 f) s = .next (Spec.delivered (Spec.bc6hOneDr 13 (decide (s.cr.fmt = 9)) f) s))
    ∧ (∀ f : Bc6hOne 16 4, exec (.bc6hM14 f) s = .next (Spec.delivered (Spec.bc6hOneDr 14 (decide (s.cr.fmt = 9)) f) s))

/-- BC7 modes 0 to 7 under DECODE (43_bc7.md section 1, 43_bc7.md section 3). A BC7 block under DECODE completes with
the DR contents of rules R222, R223 and R233: selectors, raw components, the P-bit appended to every component the
mode has (per endpoint; in mode 1 per subset), one or two index lists; nothing else changes. -/
def Obligations.Bc7Decoded : Prop :=
  ∀ s : State, Decoding s →
    (∀ f : Bc7Fields 4 0 0 6 4 0 6 45 0, exec (.bc7M0 f) s = .next (Spec.delivered (Spec.bc7Dr 0 2 3
      (fun e => if h : e < 6 then some f.p[e] else none) (Vector.replicate 16 0) f) s))
    ∧ (∀ f : Bc7Fields 6 0 0 4 6 0 2 46 0, exec (.bc7M1 f) s = .next (Spec.delivered (Spec.bc7Dr 1 1 3
      (fun e => if e < 2 then some f.p[0] else if e < 4 then some f.p[1] else none) (Vector.replicate 16 0) f) s))
    ∧ (∀ f : Bc7Fields 6 0 0 6 5 0 0 29 0, exec (.bc7M2 f) s = .next (Spec.delivered (Spec.bc7Dr 2 2 2
      (fun _ => none) (Vector.replicate 16 0) f) s))
    ∧ (∀ f : Bc7Fields 6 0 0 4 7 0 4 30 0, exec (.bc7M3 f) s = .next (Spec.delivered (Spec.bc7Dr 3 1 2
      (fun e => if h : e < 4 then some f.p[e] else none) (Vector.replicate 16 0) f) s))
    ∧ (∀ f : Bc7Fields 0 2 1 2 5 6 0 31 47, exec (.bc7M4 f) s = .next (Spec.delivered (Spec.bc7Dr 4 0 2
      (fun _ => none) (Spec.indexList f.idx2.toNat 3 0 0) f) s))
    ∧ (∀ f : Bc7Fields 0 2 0 2 7 8 0 31 31, exec (.bc7M5 f) s = .next (Spec.delivered (Spec.bc7Dr 5 0 2
      (fun _ => none) (Spec.indexList f.idx2.toNat 2 0 0) f) s))
    ∧ (∀ f : Bc7Fields 0 0 0 2 7 7 2 63 0, exec (.bc7M6 f) s = .next (Spec.delivered (Spec.bc7Dr 6 0 4
      (fun e => if h : e < 2 then some f.p[e] else none) (Vector.replicate 16 0) f) s))
    ∧ (∀ f : Bc7Fields 6 0 0 4 5 5 4 30 0, exec (.bc7M7 f) s = .next (Spec.delivered (Spec.bc7Dr 7 1 2
      (fun e => if h : e < 4 then some f.p[e] else none) (Vector.replicate 16 0) f) s))

/-- Reserved blocks under DECODE (60_exceptions.md section 1, 42_bc6h.md section 3, 43_bc7.md section 3). Each of the
five reserved kinds under DECODE raises ReservedModeEncountered: ERR = 2, EINFO = B[4:0] for BC6H and 0 for BC7,
PHASE = TERMINAL; DR, the valid flags and everything else keep their values. -/
def Obligations.ReservedBlocksRaise : Prop :=
  ∀ s : State, Decoding s →
    (∀ rest, exec (.bc6hRsvd13 rest) s = .next { s with einfo := 0x13, status := { s.status with phase := .terminal, err := .reservedModeEncountered } })
    ∧ (∀ rest, exec (.bc6hRsvd17 rest) s = .next { s with einfo := 0x17, status := { s.status with phase := .terminal, err := .reservedModeEncountered } })
    ∧ (∀ rest, exec (.bc6hRsvd1B rest) s = .next { s with einfo := 0x1B, status := { s.status with phase := .terminal, err := .reservedModeEncountered } })
    ∧ (∀ rest, exec (.bc6hRsvd1F rest) s = .next { s with einfo := 0x1F, status := { s.status with phase := .terminal, err := .reservedModeEncountered } })
    ∧ (∀ rest, exec (.bc7Rsvd rest) s = .next { s with einfo := 0, status := { s.status with phase := .terminal, err := .reservedModeEncountered } })

/-- DISPATCH to ACCUM: every block kind under CLASSIFY (44_classifier.md section 1, 44_classifier.md section 2,
10_state.md section 8). Every block kind under CLASSIFY completes: from DISPATCH within bounds its execution
computes the list of buckets of rule R254, holds it for ACCUM and goes to ACCUM; nothing else changes
(PassTransitions says what ACCUM does with the list) (the list as state between the two steps is log entry 7, the
step of its own log entry 9). -/
def Obligations.BlockClassified : Prop :=
  ∀ (fmt : Format) (B : BitVec 128) (s : State), Dispatching s → ∃ L : List (Fin 15),
    L.map Fin.val = Spec.buckets s.params fmt B
    ∧ exec (decodeBits fmt B) s = .next { s with buckets := L, hs := { s.hs with step := .accum } }

/-- ACCUM to DISPATCH, and the end of a pass (44_classifier.md section 1, 44_classifier.md section 3, 10_state.md
section 3). From ACCUM, with no reset due, a step increments TOTAL and the bucket of every member of the list held
(each modulo 2^64), advances the cursor by rule R30, past the last block where there is no next one, and is at
DISPATCH again; the list is used up and nothing else changes but a reset still to come, one step nearer. From
DISPATCH with the cursor past the last block a step ends the pass by rule R252: TERMINAL, HISTV = 1, nothing else
(the list and the mark past the last block as state are log entry 7, the steps of their own log entry 9; the clause
on a reset still to come, one step nearer, is the model's own, log entry 14). -/
def Obligations.PassTransitions : Prop :=
  ∀ s : State, ¬ resetNow s →
    (Accumulating s → ∃ t, step s = .next t ∧ t.total = s.total + 1
      ∧ (∀ k : Fin 15, t.hist[k] = s.hist[k] + BitVec.ofNat 64 (s.buckets.count k)) ∧ t.buckets = [] ∧ t.status = s.status
      ∧ (s.hs.bX.toNat + 1 < colsOf s →
          t.hs = { s.hs with bX := s.hs.bX + 1, step := .dispatch } ∧ t.exhausted = s.exhausted)
      ∧ (colsOf s ≤ s.hs.bX.toNat + 1 → s.hs.bY.toNat + 1 < nrows s.cr →
          t.hs = { s.hs with bY := s.hs.bY + 1, bX := 0, step := .dispatch } ∧ t.exhausted = s.exhausted)
      ∧ (colsOf s ≤ s.hs.bX.toNat + 1 → nrows s.cr ≤ s.hs.bY.toNat + 1 →
          t.hs = { s.hs with step := .dispatch } ∧ t.exhausted = true)
      ∧ t.cr = s.cr ∧ t.crCmd = s.crCmd ∧ t.einfo = s.einfo ∧ t.xres = s.xres ∧ t.st = s.st ∧ t.dr = s.dr ∧ t.mem = s.mem
      ∧ t.params = s.params ∧ t.inbox = (tickReset s).inbox ∧ t.readData = s.readData)
    ∧ (PassExhausted s → step s = .next { tickReset s with
        exhausted := false, status := { s.status with phase := .terminal, histv := true } })

/-- Reserved blocks under CLASSIFY (44_classifier.md section 2, 42_bc6h.md section 3, 43_bc7.md section 3). Each of the
five reserved kinds under CLASSIFY completes without an error: its execution puts its bucket, 14 for BC6H and 8 for
BC7, on the list and goes to ACCUM, and the step after it increments that bucket and TOTAL, whatever the other bits
of the block; STATUS with ERR, EINFO, the other results and memory are unchanged (the list as state is log entry 7). -/
def Obligations.ReservedBlocksCounted : Prop :=
  ∀ (s : State) (i : Instr) (k : Fin 15), Dispatching s → noResetNext s →
    (k = 14 ∧ (∃ rest, i = .bc6hRsvd13 rest ∨ i = .bc6hRsvd17 rest ∨ i = .bc6hRsvd1B rest ∨ i = .bc6hRsvd1F rest))
      ∨ (k = 8 ∧ ∃ rest, i = .bc7Rsvd rest) →
    exec i s = .next { s with buckets := [k], hs := { s.hs with step := .accum } }
    ∧ ∃ t, step { s with buckets := [k], hs := { s.hs with step := .accum } } = .next t
      ∧ t.hist = s.hist.set k.val (s.hist[k.val] + 1) ∧ t.total = s.total + 1 ∧ t.status = s.status
      ∧ t.cr = s.cr ∧ t.crCmd = s.crCmd ∧ t.einfo = s.einfo ∧ t.xres = s.xres ∧ t.st = s.st ∧ t.dr = s.dr ∧ t.mem = s.mem
      ∧ t.params = s.params ∧ t.inbox = s.inbox ∧ t.readData = s.readData

/-- CLASSIFY starts a pass (44_classifier.md section 1, 46_commands.md section 2, 10_state.md section 3). CLASSIFY on a
supported format and a non-null buffer zeroes the accumulator, clears HISTV, ERR and EINFO, puts the cursor at (0,0)
and is at (RUN, DISPATCH), with the buffer exhausted exactly where the walk has no block; nothing else changes. The
bounds of the walk, here and wherever a statement speaks of nrows or ncols, are those of rule R29: nrows =
floor(HEIGHT / 4), ncols = floor(WIDTH / 4) under COLBOUND = WIDTH and ceil(PITCH / n) under COLBOUND = PITCH (where
a command ends its start step is log entry 9, the cleared command register log entry 5, the list and the mark past
the last block log entry 7). -/
def Obligations.ClassifyStarts : Prop :=
  (∀ (p : Params) (cr : CtrlRegs) (n : Nat), 0 < n → nrows cr = ⌊(cr.height.toNat : ℚ) / 4⌋₊
    ∧ (p.colBound = .width → ncols p cr n = ⌊(cr.width.toNat : ℚ) / 4⌋₊)
    ∧ (p.colBound = .pitch → ncols p cr n = ⌈(cr.pitch.toNat : ℚ) / n⌉₊))
  ∧ ∀ (s : State) (fmt : Format), Ready s → Format.ofTag s.cr.fmt = some fmt → s.cr.base ≠ 0 →
    exec .classify s = .next { s with
      crCmd := none, einfo := 0, total := 0, hist := Vector.replicate 15 0
      hs := { s.hs with cmd := 1, bY := 0, bX := 0, step := .dispatch }
      buckets := [], exhausted := decide (nrows s.cr = 0 ∨ ncols s.params s.cr fmt.nblk = 0)
      status := { s.status with phase := .run, err := .none, histv := false } }

/-- The errors of CLASSIFY, DECODE and STATS at their start, in order (44_classifier.md section 3, 45_statistics.md
section 2, 46_commands.md section 2, 60_exceptions.md section 1, 60_exceptions.md section 3). CLASSIFY raises
UnsupportedFormat, else NullBuffer, with the accumulator zeroed and HISTV = 0. DECODE raises UnsupportedFormat, else
NullBuffer, else IllegalOperand 5 for BX out of range, else IllegalOperand 6 for BY out of range; DR is unchanged
and DECV = 0. STATS raises NullBuffer, else EmptyInput on a pixel count of 0; the ST registers hold the start values
and STATV = 0. Nothing else changes (HS.CMD after the end is log entry 18). -/
def Obligations.LaunchErrors : Prop :=
  (∀ s : State, Ready s →
    (Format.ofTag s.cr.fmt = none → exec .classify s = .next { s with
      crCmd := none, einfo := s.cr.fmt.setWidth 64, total := 0, hist := Vector.replicate 15 0, hs := { s.hs with cmd := 1 }
      status := { s.status with phase := .terminal, err := .unsupportedFormat, histv := false } })
    ∧ ((Format.ofTag s.cr.fmt).isSome → s.cr.base = 0 → exec .classify s = .next { s with
      crCmd := none, einfo := 0, total := 0, hist := Vector.replicate 15 0, hs := { s.hs with cmd := 1 }
      status := { s.status with phase := .terminal, err := .nullBuffer, histv := false } }))
  ∧ (∀ s : State, Ready s →
    (Format.ofTag s.cr.fmt = none → exec .decode s = .next { s with
      crCmd := none, einfo := s.cr.fmt.setWidth 64, hs := { s.hs with cmd := 2 }
      status := { s.status with phase := .terminal, err := .unsupportedFormat, decv := false } })
    ∧ (∀ fmt, Format.ofTag s.cr.fmt = some fmt → s.cr.base = 0 → exec .decode s = .next { s with
      crCmd := none, einfo := 0, hs := { s.hs with cmd := 2 }
      status := { s.status with phase := .terminal, err := .nullBuffer, decv := false } })
    ∧ (∀ fmt, Format.ofTag s.cr.fmt = some fmt → s.cr.base ≠ 0 → ncols s.params s.cr fmt.nblk ≤ s.cr.bX.toNat →
      exec .decode s = .next { s with
        crCmd := none, einfo := 5, hs := { s.hs with cmd := 2 }
        status := { s.status with phase := .terminal, err := .illegalOperand, decv := false } })
    ∧ (∀ fmt, Format.ofTag s.cr.fmt = some fmt → s.cr.base ≠ 0 → s.cr.bX.toNat < ncols s.params s.cr fmt.nblk →
      nrows s.cr ≤ s.cr.bY.toNat → exec .decode s = .next { s with
        crCmd := none, einfo := 6, hs := { s.hs with cmd := 2 }
        status := { s.status with phase := .terminal, err := .illegalOperand, decv := false } }))
  ∧ (∀ s : State, Ready s →
    (s.cr.base = 0 → exec .stats s = .next { s with
      crCmd := none, einfo := 0, hs := { s.hs with cmd := 3 }, st := StatRegs.start (s.cr.width * s.cr.height)
      status := { s.status with phase := .terminal, err := .nullBuffer, statv := false } })
    ∧ (s.cr.base ≠ 0 → s.cr.width * s.cr.height = 0 → exec .stats s = .next { s with
      crCmd := none, einfo := 0, hs := { s.hs with cmd := 3 }, st := StatRegs.start 0
      status := { s.status with phase := .terminal, err := .emptyInput, statv := false } })
    ∧ StatRegs.start 0 = {
        min := Vector.replicate 4 0x7F7FFFFF, max := Vector.replicate 4 0xFF7FFFFF, avg := Vector.replicate 4 0
        var := Vector.replicate 4 0, sd := Vector.replicate 4 0, maxlum := 0, special := Vector.replicate 4 0, npix := 0 })

/-- A whole CLASSIFY (44_classifier.md section 3, 44_classifier.md section 1, 10_state.md section 3, 20_memory.md
section 3). With CLASSIFY pending on a supported format and a non-null buffer, the start step, two steps per block
of the walk and the end step give: TERMINAL without error, HISTV = 1, TOTAL the number nrows · ncols of blocks, by
the formulas of rule R29, and each HIST[k] the number of blocks of the walk whose bucket list contains k (both
modulo 2^64), each block read at the address of rule R62; the cursor on the last block (at the first, where there is
none, rule R264), HS.STEP at DISPATCH, and everything else unchanged (the number of steps is log entry 9, the hidden
state after the end log entries 7 and 18). -/
def Obligations.ClassifyPassCounts : Prop :=
  ∀ (s : State) (fmt : Format) (nr nc : Nat), nr = Spec.blockRows s.cr → nc = Spec.blockCols s.params s.cr fmt.nblk → Ready s → noResetNext s →
    s.crCmd = some 1 → Format.ofTag s.cr.fmt = some fmt → s.cr.base ≠ 0 →
    ∃ t : State, Sys2Proof.core.run (2 * (nr * nc) + 2) s = .next t
      ∧ t.status = { s.status with phase := .terminal, err := .none, histv := true }
      ∧ t.total = BitVec.ofNat 64 (nr * nc)
      ∧ (∀ k : Fin 15, t.hist[k] = BitVec.ofNat 64 (Spec.bucketCount s fmt k.val))
      ∧ (0 < nr * nc → t.hs.bY.toNat + 1 = nr ∧ t.hs.bX.toNat + 1 = nc)
      ∧ (nr * nc = 0 → t.hs.bY = 0 ∧ t.hs.bX = 0)
      ∧ t.hs.cmd = 1 ∧ t.hs.step = .dispatch ∧ t.hs.sum = s.hs.sum ∧ t.buckets = [] ∧ t.exhausted = false
      ∧ t.cr = s.cr ∧ t.crCmd = none ∧ t.einfo = 0 ∧ t.xres = s.xres ∧ t.st = s.st ∧ t.dr = s.dr ∧ t.mem = s.mem
      ∧ t.params = s.params ∧ t.inbox = s.inbox ∧ t.readData = s.readData

/-- DECODE starts (46_commands.md section 2). DECODE on a supported format, a non-null buffer and a block in bounds
clears DECV, ERR and EINFO and is in RUN for the fetch; DR and everything else keep their values (the fetch in a
later step is log entry 9). -/
def Obligations.DecodeStarts : Prop :=
  ∀ (s : State) (fmt : Format), Ready s → Format.ofTag s.cr.fmt = some fmt → s.cr.base ≠ 0 →
    s.cr.bX.toNat < ncols s.params s.cr fmt.nblk → s.cr.bY.toNat < nrows s.cr →
    exec .decode s = .next { s with
      crCmd := none, einfo := 0, hs := { s.hs with cmd := 2 }
      status := { s.status with phase := .run, err := .none, decv := false } }

/-- A DECODE from its command to its block (46_commands.md section 2, 20_memory.md section 3). With DECODE pending on a
block in bounds, two steps execute the block at BASE + BY·PITCH + BX·n, decoded under CR.FMT, in the state DECODE
starts (the two steps are log entry 9). -/
def Obligations.DecodeTransaction : Prop :=
  ∀ (s : State) (fmt : Format), Ready s → noResetNext s → s.crCmd = some 2 → Format.ofTag s.cr.fmt = some fmt → s.cr.base ≠ 0 →
    s.cr.bX.toNat < ncols s.params s.cr fmt.nblk → s.cr.bY.toNat < nrows s.cr →
    Sys2Proof.core.run 2 s
      = exec (decodeBits fmt (BitVec.ofNat 128 (Spec.readLE s.mem
          (BitVec.ofNat 64 (s.cr.base.toNat + s.cr.bY.toNat * s.cr.pitch.toNat + s.cr.bX.toNat * fmt.nblk)) fmt.nblk)))
        { s with
          crCmd := none, einfo := 0, hs := { s.hs with cmd := 2 }
          status := { s.status with phase := .run, err := .none, decv := false } }

/-- STATS starts (45_statistics.md section 2). STATS on a non-null buffer and a pixel count that is not 0 writes the
start values of rule R283, clears STATV, ERR and EINFO and starts pass 1 at the first pixel with zero sums (the
pixels in later steps are log entry 9). -/
def Obligations.StatsStarts : Prop :=
  ∀ s : State, Ready s → s.cr.base ≠ 0 → s.cr.width * s.cr.height ≠ 0 →
    exec .stats s = .next { s with
      crCmd := none, einfo := 0
      st := {
        min := Vector.replicate 4 0x7F7FFFFF, max := Vector.replicate 4 0xFF7FFFFF, avg := Vector.replicate 4 0
        var := Vector.replicate 4 0, sd := Vector.replicate 4 0, maxlum := 0, special := Vector.replicate 4 0
        npix := s.cr.width * s.cr.height }
      hs := { cmd := 3, bY := 0, bX := 0, step := .pass1, sum := Vector.replicate 4 0 }
      status := { s.status with phase := .run, err := .none, statv := false } }

/-- A whole STATS (45_statistics.md section 2, 20_memory.md section 1, 20_memory.md section 2, 20_memory.md section 3).
With STATS pending on a non-null buffer with at least one and fewer than 2^60 pixels, the start step and two steps
per pixel end STATS: TERMINAL without error, STATV = 1, and every ST register is the fold over the pixels in row-
major order that rules R285 to R289 give, the variance by VAR_DIV, each pixel read at the address of rule R63 and
each channel cut out of it by rule R284; the other result registers, memory and everything else but the hidden
cursor, inner state and sums are unchanged (the number of steps is log entry 9). -/
def Obligations.StatsTwoPasses : Prop :=
  ∀ s : State, Ready s → noResetNext s → s.crCmd = some 3 → s.cr.base ≠ 0 → 0 < s.cr.width.toNat * s.cr.height.toNat →
    s.cr.width.toNat * s.cr.height.toNat < 2 ^ 60 →
    ∃ t : State, Sys2Proof.core.run (2 * (s.cr.width.toNat * s.cr.height.toNat) + 1) s = .next t
      ∧ t.st = Spec.statistics s (s.cr.width.toNat * s.cr.height.toNat)
      ∧ t.status = { s.status with phase := .terminal, err := .none, statv := true }
      ∧ t.cr = s.cr ∧ t.crCmd = none ∧ t.einfo = 0 ∧ t.xres = s.xres ∧ t.total = s.total ∧ t.hist = s.hist
      ∧ t.dr = s.dr ∧ t.mem = s.mem ∧ t.params = s.params ∧ t.buckets = s.buckets ∧ t.exhausted = s.exhausted
      ∧ t.inbox = s.inbox ∧ t.readData = s.readData

/-- EXTRACT completes (46_commands.md section 2, 40_extract_fixup.md section 1). EXTRACT on a supported format, a non-
null buffer and legal operands delivers bits off+w-1 to off of the block at (BY, BX), zero-extended (0 for w = 0),
with XV = 1 and nothing else changed. -/
def Obligations.ExtractCompletes : Prop :=
  ∀ (s : State) (fmt : Format), Ready s → Format.ofTag s.cr.fmt = some fmt → s.cr.base ≠ 0 → s.cr.op1.toNat ≤ 64 →
    s.cr.op0.toNat + s.cr.op1.toNat ≤ 8 * fmt.nblk →
    exec .extract s = .next { s with
      crCmd := none, einfo := 0, hs := { s.hs with cmd := 4 }
      xres := BitVec.ofNat 64 (Spec.readLE s.mem
        (BitVec.ofNat 64 (s.cr.base.toNat + s.cr.bY.toNat * s.cr.pitch.toNat + s.cr.bX.toNat * fmt.nblk)) fmt.nblk
          / 2 ^ s.cr.op0.toNat % 2 ^ s.cr.op1.toNat)
      status := { s.status with phase := .terminal, err := .none, xv := true } }

/-- The errors of EXTRACT, SEXT, FIXUP and ISFIX, in order (46_commands.md section 2, 60_exceptions.md section 3).
EXTRACT raises UnsupportedFormat, else NullBuffer, else IllegalOperand 8 for a width above 64, else IllegalOperand 7
for a field past the block. SEXT raises IllegalOperand 7 for k = 0 or k > 64 and else IllegalOperand 8 for raw ≥ 2^k
with k < 64. FIXUP and ISFIX raise IllegalOperand 7, else 8, else 9 for the first operand out of range. XRES is
unchanged, XV = 0, nothing else changes (HS.CMD after the end is log entry 18). -/
def Obligations.OperandErrors : Prop :=
  (∀ s : State, Ready s →
    (Format.ofTag s.cr.fmt = none → exec .extract s = .next { s with
      crCmd := none, einfo := s.cr.fmt.setWidth 64, hs := { s.hs with cmd := 4 }
      status := { s.status with phase := .terminal, err := .unsupportedFormat, xv := false } })
    ∧ (∀ fmt, Format.ofTag s.cr.fmt = some fmt → s.cr.base = 0 → exec .extract s = .next { s with
      crCmd := none, einfo := 0, hs := { s.hs with cmd := 4 }
      status := { s.status with phase := .terminal, err := .nullBuffer, xv := false } })
    ∧ (∀ fmt, Format.ofTag s.cr.fmt = some fmt → s.cr.base ≠ 0 → 64 < s.cr.op1.toNat → exec .extract s = .next { s with
      crCmd := none, einfo := 8, hs := { s.hs with cmd := 4 }
      status := { s.status with phase := .terminal, err := .illegalOperand, xv := false } })
    ∧ (∀ fmt, Format.ofTag s.cr.fmt = some fmt → s.cr.base ≠ 0 → s.cr.op1.toNat ≤ 64 →
      8 * fmt.nblk < s.cr.op0.toNat + s.cr.op1.toNat → exec .extract s = .next { s with
      crCmd := none, einfo := 7, hs := { s.hs with cmd := 4 }
      status := { s.status with phase := .terminal, err := .illegalOperand, xv := false } }))
  ∧ (∀ s : State, Ready s →
    (s.cr.op0.toNat = 0 ∨ 64 < s.cr.op0.toNat → exec .sext s = .next { s with
      crCmd := none, einfo := 7, hs := { s.hs with cmd := 5 }
      status := { s.status with phase := .terminal, err := .illegalOperand, xv := false } })
    ∧ (1 ≤ s.cr.op0.toNat → s.cr.op0.toNat < 64 → 2 ^ s.cr.op0.toNat ≤ s.cr.op1.toNat → exec .sext s = .next { s with
      crCmd := none, einfo := 8, hs := { s.hs with cmd := 5 }
      status := { s.status with phase := .terminal, err := .illegalOperand, xv := false } }))
  ∧ (∀ s : State, Ready s →
    (2 < s.cr.op0.toNat → exec .fixup s = .next { s with
      crCmd := none, einfo := 7, hs := { s.hs with cmd := 6 }
      status := { s.status with phase := .terminal, err := .illegalOperand, xv := false } }
      ∧ exec .isfix s = .next { s with
      crCmd := none, einfo := 7, hs := { s.hs with cmd := 7 }
      status := { s.status with phase := .terminal, err := .illegalOperand, xv := false } })
    ∧ (s.cr.op0.toNat ≤ 2 → 63 < s.cr.op1.toNat → exec .fixup s = .next { s with
      crCmd := none, einfo := 8, hs := { s.hs with cmd := 6 }
      status := { s.status with phase := .terminal, err := .illegalOperand, xv := false } }
      ∧ exec .isfix s = .next { s with
      crCmd := none, einfo := 8, hs := { s.hs with cmd := 7 }
      status := { s.status with phase := .terminal, err := .illegalOperand, xv := false } })
    ∧ (s.cr.op0.toNat ≤ 2 → s.cr.op1.toNat ≤ 63 → 2 < s.cr.op2.toNat → exec .fixup s = .next { s with
      crCmd := none, einfo := 9, hs := { s.hs with cmd := 6 }
      status := { s.status with phase := .terminal, err := .illegalOperand, xv := false } })
    ∧ (s.cr.op0.toNat ≤ 2 → s.cr.op1.toNat ≤ 63 → 15 < s.cr.op2.toNat → exec .isfix s = .next { s with
      crCmd := none, einfo := 9, hs := { s.hs with cmd := 7 }
      status := { s.status with phase := .terminal, err := .illegalOperand, xv := false } }))

/-- Extraction in terms of machine words (40_extract_fixup.md section 1). For a 128-bit block and legal operands the
extractor agrees with the three cases over the low and the high 64-bit word. (rule R142, which the spec marks as
derived) -/
def Obligations.ExtractByWords : Prop :=
  ∀ B off w : Nat, B < 2 ^ 128 → w ≤ 64 → off + w ≤ 128 → extractField B off w = Spec.extractWords B off w

/-- SEXT completes (46_commands.md section 2, 40_extract_fixup.md section 2). SEXT with 1 ≤ k ≤ 64 and raw < 2^k
delivers the source's formula raw | (raw & (1<<(k-1)) ? ~((1<<k)-1) : 0) at 64 bits, with XV = 1 and nothing else
changed. -/
def Obligations.SextCompletes : Prop :=
  ∀ s : State, Ready s → 1 ≤ s.cr.op0.toNat → s.cr.op0.toNat ≤ 64 → s.cr.op1.toNat < 2 ^ s.cr.op0.toNat →
    exec .sext s = .next { s with
      crCmd := none, einfo := 0, hs := { s.hs with cmd := 5 }
      xres := s.cr.op1 ||| (if s.cr.op1.getLsbD (s.cr.op0.toNat - 1) then ~~~(BitVec.ofNat 64 (2 ^ s.cr.op0.toNat - 1)) else 0)
      status := { s.status with phase := .terminal, err := .none, xv := true } }

/-- The laws of sign extension (40_extract_fixup.md section 2). sext_k of 2^(k-1) is -2^(k-1); sext_k is the identity
below 2^(k-1); sext_k of 2^k - 1 is -1; its two's complement at width k is the raw value; the result lies in
[-2^(k-1), 2^(k-1) - 1]. (rule R147, whose last two laws the spec marks as derived) -/
def Obligations.SextLaws : Prop :=
  ∀ k raw : Nat, 1 ≤ k → raw < 2 ^ k →
    sextInt k (2 ^ (k - 1)) = -(2 ^ (k - 1) : Int) ∧ (raw < 2 ^ (k - 1) → sextInt k raw = raw) ∧ sextInt k (2 ^ k - 1) = -1
    ∧ BitVec.ofInt k (sextInt k raw) = BitVec.ofNat k raw
    ∧ -(2 ^ (k - 1) : Int) ≤ sextInt k raw ∧ sextInt k raw ≤ 2 ^ (k - 1) - 1

/-- FIXUP and ISFIX complete (46_commands.md section 2, 40_extract_fixup.md section 3). FIXUP with OP0 ≤ 2, OP1 ≤ 63,
OP2 ≤ 2 delivers FIXUP[OP0][OP1][OP2], ISFIX with OP2 ≤ 15 delivers 1 exactly when OP2 is FIXUP[OP0][OP1][q] for
some q ≤ OP0; XV = 1 and nothing else changes. -/
def Obligations.FixupIsfixComplete : Prop :=
  ∀ s : State, Ready s → s.cr.op0.toNat ≤ 2 → s.cr.op1.toNat ≤ 63 →
    (s.cr.op2.toNat ≤ 2 → exec .fixup s = .next { s with
      crCmd := none, einfo := 0, hs := { s.hs with cmd := 6 }
      xres := BitVec.ofNat 64 (fixupEntry s.cr.op0.toNat s.cr.op1.toNat s.cr.op2.toNat)
      status := { s.status with phase := .terminal, err := .none, xv := true } })
    ∧ (s.cr.op2.toNat ≤ 15 → exec .isfix s = .next { s with
      crCmd := none, einfo := 0, hs := { s.hs with cmd := 7 }
      xres := if ∃ q ≤ s.cr.op0.toNat, fixupEntry s.cr.op0.toNat s.cr.op1.toNat q = s.cr.op2.toNat then 1 else 0
      status := { s.status with phase := .terminal, err := .none, xv := true } })

/-- Illegal command codes (R318). Code 0 and codes 8 to 15 raise IllegalOperand with EINFO = 10 + 256 · code; PHASE
becomes TERMINAL and ERR 6; no valid flag, no result register, no descriptor register and no byte changes (decisions
D3 and D21 of the spec). -/
def Obligations.IllegalCodesRaise : Prop :=
  ∀ (s : State) (code : Nibble), Ready s → code = 0 ∨ 8 ≤ code.toNat →
    (code = 0 → decodeCommand code = .cmdIllegal0) ∧ (code ≠ 0 → decodeCommand code = .cmdIllegal8to15 code)
    ∧ ∃ t, exec (decodeCommand code) s = .next t ∧ t.einfo = BitVec.ofNat 64 (10 + 256 * code.toNat)
      ∧ t.status = { s.status with phase := .terminal, err := .illegalOperand } ∧ ErrCode.illegalOperand.code = 6
      ∧ t.xres = s.xres ∧ t.total = s.total ∧ t.hist = s.hist ∧ t.st = s.st ∧ t.dr = s.dr
      ∧ t.cr = s.cr ∧ t.mem = s.mem ∧ t.params = s.params

/-- The entries of the fix-up table (40_extract_fixup.md section 3). The 64 entries of subset 1 for two subsets and of
subsets 1 and 2 for three subsets are those of the spec's tables, in the order of the shape (entries that the spec
itself marks as general knowledge). -/
def Obligations.FixupTableValues : Prop :=
  (List.range 64).map (fun sh => fixupEntry 1 sh 1) =
      [15, 15, 15, 15, 15, 15, 15, 15, 15, 15, 15, 15, 15, 15, 15, 15,
      15, 2, 8, 2, 2, 8, 8, 15, 2, 8, 2, 2, 8, 8, 2, 2,
      15, 15, 6, 8, 2, 8, 15, 15, 2, 8, 2, 2, 2, 15, 15, 6,
      6, 2, 6, 8, 15, 15, 2, 2, 15, 15, 15, 15, 15, 2, 2, 15]
    ∧ (List.range 64).map (fun sh => fixupEntry 2 sh 1) =
      [3, 3, 15, 15, 8, 3, 15, 15, 8, 8, 6, 6, 6, 5, 3, 3,
      3, 3, 8, 15, 3, 3, 6, 10, 5, 8, 8, 6, 8, 5, 15, 15,
      8, 15, 3, 5, 6, 10, 8, 15, 15, 3, 15, 5, 15, 15, 15, 15,
      3, 15, 5, 5, 5, 8, 5, 10, 5, 10, 8, 13, 15, 12, 3, 3]
    ∧ (List.range 64).map (fun sh => fixupEntry 2 sh 2) =
      [15, 8, 8, 3, 15, 15, 3, 8, 15, 15, 15, 15, 15, 15, 15, 8,
      15, 8, 15, 3, 15, 8, 15, 8, 3, 15, 6, 10, 15, 15, 10, 8,
      15, 3, 15, 10, 10, 8, 9, 10, 6, 15, 8, 15, 3, 6, 6, 8,
      15, 3, 15, 15, 15, 15, 15, 15, 15, 15, 15, 15, 3, 15, 15, 8]

/-- The fix-up table and its positions (R149, R151). Column 0 and every column q > p hold 0; for p = 1 the entry of
subset 1 lies in 1 to 15; for p = 2 the three entries are pairwise distinct and the last two lie in 1 to 15.
isfix(p, s, j) holds exactly when j is FIXUP[p][s][q] for some q ≤ p, so no column q > p is consulted; pixel 0 is
always one; for p = 0 it is the only one; the number of them is p + 1. -/
def Obligations.FixupPositions : Prop :=
  (∀ sh : Nat, sh ≤ 63 →
    (∀ p ≤ 2, fixupEntry p sh 0 = 0) ∧ fixupEntry 0 sh 1 = 0 ∧ fixupEntry 0 sh 2 = 0 ∧ fixupEntry 1 sh 2 = 0
    ∧ 1 ≤ fixupEntry 1 sh 1 ∧ fixupEntry 1 sh 1 ≤ 15
    ∧ 1 ≤ fixupEntry 2 sh 1 ∧ fixupEntry 2 sh 1 ≤ 15 ∧ 1 ≤ fixupEntry 2 sh 2 ∧ fixupEntry 2 sh 2 ≤ 15
    ∧ fixupEntry 2 sh 1 ≠ fixupEntry 2 sh 2)
  ∧ (∀ p sh : Nat, p ≤ 2 → sh ≤ 63 →
    (∀ j ≤ 15, isfix p sh j = true ↔ ∃ q ≤ p, j = fixupEntry p sh q) ∧ isfix p sh 0 = true
    ∧ (∀ j ≤ 15, isfix 0 sh j = true ↔ j = 0) ∧ ((List.range 16).countP fun j => isfix p sh j) = p + 1)

/-- Index unpack is the loop of rule R152 (40_extract_fixup.md section 4). For n in 2, 3, 4 the sixteen indices are
those the loop of rule R152 reads from the least significant bit on (an order the spec itself marks as general
knowledge), zero-extended, at a fix-up position below 2^(n-1); the loop consumes exactly 16·n - (p + 1) bits (rule
R153, which the spec marks as derived). -/
def Obligations.UnpackIsTheLoop : Prop :=
  (∀ F n p sh : Nat, 2 ≤ n → n ≤ 4 → p ≤ 2 → sh ≤ 63 →
    (unpack F n p sh).toList.map BitVec.toNat = Spec.unpackLoop F n p sh 16 0 0
    ∧ ∀ j : Fin 16, isfix p sh j.val = true → ((unpack F n p sh)[j]).toNat < 2 ^ (n - 1))
  ∧ (∀ n p sh : Nat, 2 ≤ n → n ≤ 4 → p ≤ 2 → sh ≤ 63 → idxPos n p sh 16 = 16 * n - (p + 1))

/-- unpack inverts pack (40_extract_fixup.md section 4). Packing sixteen indices that fit their widths and unpacking the
field gives them back. -/
def Obligations.UnpackInvertsPack : Prop :=
  ∀ (idx : Vector (BitVec 4) 16) (n p sh : Nat), 2 ≤ n → n ≤ 4 → p ≤ 2 → sh ≤ 63 →
    (∀ j : Fin 16, (idx[j]).toNat < 2 ^ idxWidth n p sh j.val) → unpack (pack idx n p sh) n p sh = idx

/-- The register map (10_state.md section 2, 10_state.md section 5, 10_state.md section 6). What the host reads from
each register number: the descriptor registers, 0 from CR.CMD, the status and result registers at the numbers of the
spec, and 0 from every number that names no register. With the decode results all zero (rule R24) every number from
64 on reads 0. STATUS reads with PHASE in bits 1:0, ERR in bits 6:4, the valid flags in bits 8 to 11 and 0
elsewhere. -/
def Obligations.RegisterReads : Prop :=
  (∀ s : State,
    readReg s 0 = s.cr.fmt.setWidth 64 ∧ readReg s 1 = s.cr.width ∧ readReg s 2 = s.cr.height ∧ readReg s 3 = s.cr.pitch
    ∧ readReg s 4 = s.cr.base ∧ readReg s 5 = s.cr.bX ∧ readReg s 6 = s.cr.bY ∧ readReg s 7 = s.cr.op0
    ∧ readReg s 8 = s.cr.op1 ∧ readReg s 9 = s.cr.op2 ∧ readReg s 10 = 0 ∧ readReg s 11 = s.status.toWord
    ∧ readReg s 12 = s.xres ∧ readReg s 13 = s.einfo ∧ readReg s 16 = s.total
    ∧ (∀ k : Fin 15, readReg s (17 + k.val) = s.hist[k])
    ∧ (∀ c : Fin 4, readReg s (32 + c.val) = s.st.min[c].setWidth 64 ∧ readReg s (36 + c.val) = s.st.max[c].setWidth 64
      ∧ readReg s (40 + c.val) = s.st.avg[c].setWidth 64 ∧ readReg s (44 + c.val) = s.st.var[c].setWidth 64
      ∧ readReg s (48 + c.val) = s.st.sd[c].setWidth 64 ∧ readReg s (53 + c.val) = s.st.special[c])
    ∧ readReg s 52 = s.st.maxlum.setWidth 64 ∧ readReg s 57 = s.st.npix
    ∧ readReg s 64 = s.dr.mode.setWidth 64 ∧ readReg s 65 = s.dr.ns.setWidth 64 ∧ readReg s 66 = s.dr.shape.setWidth 64
    ∧ readReg s 67 = s.dr.rot.setWidth 64 ∧ readReg s 68 = s.dr.isel.setWidth 64 ∧ readReg s 69 = s.dr.sub.setWidth 64
    ∧ readReg s 70 = s.dr.ndiv.setWidth 64 ∧ readReg s 71 = s.dr.c565[0].setWidth 64 ∧ readReg s 72 = s.dr.c565[1].setWidth 64
    ∧ (∀ (e : Fin 6) (c : Fin 4), readReg s (80 + 4 * e.val + c.val) = (s.dr.epraw[e][c]).setWidth 64
      ∧ readReg s (112 + 4 * e.val + c.val) = (s.dr.ep[e][c]).setWidth 64)
    ∧ (∀ e : Fin 6, readReg s (144 + e.val) = s.dr.pb[e].setWidth 64)
    ∧ (∀ j : Fin 16, readReg s (160 + j.val) = s.dr.ix0[j].setWidth 64 ∧ readReg s (176 + j.val) = s.dr.ix1[j].setWidth 64)
    ∧ (∀ n : Nat, n = 14 ∨ n = 15 ∨ (58 ≤ n ∧ n < 64) ∨ (73 ≤ n ∧ n < 80) ∨ (104 ≤ n ∧ n < 112) ∨ (136 ≤ n ∧ n < 144)
      ∨ (150 ≤ n ∧ n < 160) ∨ 192 ≤ n → readReg s n = 0)
    ∧ (s.dr = DecodeResult.zero → ∀ n : Nat, 64 ≤ n → readReg s n = 0))
  ∧ (∀ t : Status, t.toWord.extractLsb' 0 2 = (match t.phase with | .none => 0 | .run => 1 | .terminal => 2)
    ∧ t.toWord.extractLsb' 2 2 = 0 ∧ (t.toWord.extractLsb' 4 3).toNat = (match t.err with
      | .none => 0 | .unsupportedFormat => 1 | .reservedModeEncountered => 2 | .dimensionMismatch => 3 | .emptyInput => 4
      | .nullBuffer => 5 | .illegalOperand => 6)
    ∧ t.toWord.getLsbD 7 = false
    ∧ t.toWord.getLsbD 8 = t.histv ∧ t.toWord.getLsbD 9 = t.statv ∧ t.toWord.getLsbD 10 = t.decv ∧ t.toWord.getLsbD 11 = t.xv
    ∧ t.toWord.extractLsb' 12 52 = 0)

/-- What a host access or a reset between commands does (46_commands.md section 3, 10_state.md section 5, 20_memory.md
section 6, 70_reset_and_hazards.md section 1). A read of a register gives its value and changes no register and no
byte. A write of v stores it in the descriptor register of its number (4 bits in CR.FMT), makes the command v[3:0]
pending for number 10, and is ignored for every other number. A load of bytes changes the buffer memory only.
Nothing else changes. A reset, whatever the count of core steps its entry asks for, is served as the next access,
and leaves every register with a reset value of the spec at it, every valid flag 0, buffer memory and parameters
unchanged (the entry with its count is the model's, log entry 14) (the inbox and the read data are the model's, log
entries 1, 5, 13 and 19). -/
def Obligations.HostAccesses : Prop :=
  (∀ (s : State) (n : Nat) (rest : List HostOp), Ready s → s.crCmd = none → s.inbox = .read n :: rest →
    step s = .next { s with inbox := rest, readData := readReg s n })
  ∧ (∀ (s : State) (n : Nat) (v : Word64) (rest : List HostOp), Ready s → s.crCmd = none → s.inbox = .write n v :: rest →
    (n = 0 → step s = .next { s with inbox := rest, cr := { s.cr with fmt := v.setWidth 4 } })
    ∧ (n = 1 → step s = .next { s with inbox := rest, cr := { s.cr with width := v } })
    ∧ (n = 2 → step s = .next { s with inbox := rest, cr := { s.cr with height := v } })
    ∧ (n = 3 → step s = .next { s with inbox := rest, cr := { s.cr with pitch := v } })
    ∧ (n = 4 → step s = .next { s with inbox := rest, cr := { s.cr with base := v } })
    ∧ (n = 5 → step s = .next { s with inbox := rest, cr := { s.cr with bX := v } })
    ∧ (n = 6 → step s = .next { s with inbox := rest, cr := { s.cr with bY := v } })
    ∧ (n = 7 → step s = .next { s with inbox := rest, cr := { s.cr with op0 := v } })
    ∧ (n = 8 → step s = .next { s with inbox := rest, cr := { s.cr with op1 := v } })
    ∧ (n = 9 → step s = .next { s with inbox := rest, cr := { s.cr with op2 := v } })
    ∧ (n = 10 → step s = .next { s with inbox := rest, crCmd := some (v.setWidth 4) })
    ∧ (11 ≤ n → step s = .next { s with inbox := rest }))
  ∧ (∀ (s : State) (addr : Word64) (bs : List Byte) (rest : List HostOp), Ready s → s.crCmd = none → s.inbox = .store addr bs :: rest →
    step s = .next { s with inbox := rest, mem := memStore s.mem addr bs })
  ∧ (∀ (s : State) (k : Nat) (rest : List HostOp), Ready s → s.crCmd = none → s.inbox = .reset k :: rest → ∃ t, step s = .next t
    ∧ t.cr = { fmt := 0, width := 0, height := 0, pitch := 0, base := 0, bX := 0, bY := 0, op0 := 0, op1 := 0, op2 := 0 }
    ∧ t.crCmd = none
    ∧ t.status = { phase := .none, err := .none, histv := false, statv := false, decv := false, xv := false }
    ∧ t.einfo = 0 ∧ t.hs.cmd = 0 ∧ t.hs.bY = 0 ∧ t.hs.bX = 0 ∧ t.hs.step = .dispatch
    ∧ t.mem = s.mem ∧ t.params = s.params ∧ t.inbox = rest)

/-- The core reads what the host last loaded (20_memory.md section 6). After the host loads bytes at an address, reading
as many bytes there gives them, every address outside reads as before, and the memory stays canonical. -/
def Obligations.LoadedBytesAreRead : Prop :=
  ∀ (m : Memory) (addr : Word64) (bs : List Byte), bs.length ≤ 2 ^ 64 → Memory.wf m = true →
    memBytes (memStore m addr bs) addr bs.length = bs
    ∧ (∀ x : Word64, bs.length ≤ (x - addr).toNat → memByte (memStore m addr bs) x = memByte m x)
    ∧ Memory.wf (memStore m addr bs) = true

/-- No instruction writes memory or the descriptor (20_memory.md section 4, 46_commands.md section 1). Whatever
instruction gives a next state, the buffer memory (every byte), the descriptor registers, the parameters and what
the host has yet to do are unchanged. -/
def Obligations.CommandsAndBlocksOnlyRead : Prop :=
  ∀ (i : Instr) (s t : State), exec i s = .next t →
    t.mem = s.mem ∧ t.cr = s.cr ∧ t.params = s.params ∧ t.inbox = s.inbox ∧ t.readData = s.readData

/-- A command touches only its own result group (46_commands.md section 1, 70_reset_and_hazards.md section 4). When the
start step of a command (its exec, which is the whole command for EXTRACT, SEXT, FIXUP, ISFIX and the illegal codes)
gives a next state, the results and valid flags of the other groups keep their values, and an illegal code keeps all
of them; the start step of DECODE leaves DR as it was. Every further step of a running CLASSIFY, DECODE or STATS,
with no reset due, keeps the results and valid flags of the other groups, the descriptor registers, the memory and
the parameters as well (that CLASSIFY, DECODE and STATS are a start step and further steps is the model's choice,
log entry 9). -/
def Obligations.OwnResultGroupOnly : Prop :=
  ∀ s t : State,
    (exec .classify s = .next t → t.st = s.st ∧ t.dr = s.dr ∧ t.xres = s.xres ∧ t.status.statv = s.status.statv
      ∧ t.status.decv = s.status.decv ∧ t.status.xv = s.status.xv)
    ∧ (exec .stats s = .next t → t.total = s.total ∧ t.hist = s.hist ∧ t.dr = s.dr ∧ t.xres = s.xres
      ∧ t.status.histv = s.status.histv ∧ t.status.decv = s.status.decv ∧ t.status.xv = s.status.xv)
    ∧ (exec .decode s = .next t → t.total = s.total ∧ t.hist = s.hist ∧ t.st = s.st ∧ t.dr = s.dr ∧ t.xres = s.xres
      ∧ t.status.histv = s.status.histv ∧ t.status.statv = s.status.statv ∧ t.status.xv = s.status.xv)
    ∧ (∀ i ∈ [Instr.extract, .sext, .fixup, .isfix], exec i s = .next t → t.total = s.total ∧ t.hist = s.hist ∧ t.st = s.st
      ∧ t.dr = s.dr ∧ t.status.histv = s.status.histv ∧ t.status.statv = s.status.statv ∧ t.status.decv = s.status.decv)
    ∧ (∀ code : Nibble, code = 0 ∨ 8 ≤ code.toNat → exec (decodeCommand code) s = .next t → t.total = s.total ∧ t.hist = s.hist
      ∧ t.st = s.st ∧ t.dr = s.dr ∧ t.xres = s.xres ∧ t.status.histv = s.status.histv ∧ t.status.statv = s.status.statv
      ∧ t.status.decv = s.status.decv ∧ t.status.xv = s.status.xv)
    ∧ (s.status.phase = .run → ¬ resetNow s → step s = .next t →
      t.cr = s.cr ∧ t.mem = s.mem ∧ t.params = s.params ∧ t.xres = s.xres ∧ t.status.xv = s.status.xv
      ∧ (s.hs.cmd = 1 → t.st = s.st ∧ t.dr = s.dr ∧ t.status.statv = s.status.statv ∧ t.status.decv = s.status.decv)
      ∧ (s.hs.cmd = 2 → t.total = s.total ∧ t.hist = s.hist ∧ t.st = s.st
        ∧ t.status.histv = s.status.histv ∧ t.status.statv = s.status.statv)
      ∧ (s.hs.cmd = 3 → t.total = s.total ∧ t.hist = s.hist ∧ t.dr = s.dr
        ∧ t.status.histv = s.status.histv ∧ t.status.decv = s.status.decv))

/-- No partial result after an error (60_exceptions.md section 4). When an instruction ends in an error, PHASE is
TERMINAL, DR and XRES are unchanged, the valid flag of the command's group is 0 (a block that raises keeps DECV,
which DECODE cleared), and no valid flag went from 0 to 1. -/
def Obligations.ErrorsArePrecise : Prop :=
  ∀ (i : Instr) (s t : State), s.status.err = .none ∨ isCommand i = true → exec i s = .next t → t.status.err ≠ .none →
    t.status.phase = .terminal ∧ t.dr = s.dr ∧ t.xres = s.xres
    ∧ (i = .classify → t.status.histv = false) ∧ (i = .stats → t.status.statv = false) ∧ (i = .decode → t.status.decv = false)
    ∧ (i ∈ [Instr.extract, .sext, .fixup, .isfix] → t.status.xv = false)
    ∧ (t.status.histv = true → s.status.histv = true) ∧ (t.status.statv = true → s.status.statv = true)
    ∧ (t.status.decv = true → s.status.decv = true) ∧ (t.status.xv = true → s.status.xv = true)

/-- Commands see operands and memory only (46_commands.md section 1, 45_statistics.md section 3, 70_reset_and_hazards.md
section 4). Two machines with the same descriptor, parameters and memory, whatever else they hold, agree after the
start step of a command (its exec) and, with the same command pending and nothing asked by the host, after every
number of steps from its start on, the end of the command and all moments before it included: PHASE, ERR, EINFO and
HS.CMD; the accumulator and HISTV under CLASSIFY; ST and STATV under STATS; DECV under DECODE and, once DECV = 1,
every DR register; XV under EXTRACT, SEXT, FIXUP and ISFIX and, without error, XRES (that CLASSIFY, DECODE and STATS
are a start step and further steps is the model's choice, log entry 9; that a STATS delivers the same NaN bits, as
rule R389 has it and rule R292 only up to NaNs as one value, is log entry 3). -/
def Obligations.CommandPurity : Prop :=
  (∀ (i : Instr) (s s' t t' : State), isCommand i = true → s.cr = s'.cr → s.params = s'.params → s.mem = s'.mem →
    exec i s = .next t → exec i s' = .next t' →
    t.status.phase = t'.status.phase ∧ t.status.err = t'.status.err ∧ t.einfo = t'.einfo ∧ t.hs.cmd = t'.hs.cmd
    ∧ (i = .classify → t.total = t'.total ∧ t.hist = t'.hist ∧ t.status.histv = t'.status.histv)
    ∧ (i = .stats → t.st = t'.st ∧ t.status.statv = t'.status.statv) ∧ (i = .decode → t.status.decv = t'.status.decv)
    ∧ (i ∈ [Instr.extract, .sext, .fixup, .isfix] → t.status.xv = t'.status.xv ∧ (t.status.err = .none → t.xres = t'.xres)))
  ∧ ∀ (code : Nibble) (k : Nat) (s s' t t' : State), Ready s → Ready s' → s.crCmd = some code → s'.crCmd = some code →
    s.inbox = [] → s'.inbox = [] → s.cr = s'.cr → s.params = s'.params → s.mem = s'.mem →
    Sys2Proof.core.run (k + 1) s = .next t → Sys2Proof.core.run (k + 1) s' = .next t' →
    t.status.phase = t'.status.phase ∧ t.status.err = t'.status.err ∧ t.einfo = t'.einfo ∧ t.hs.cmd = t'.hs.cmd
    ∧ (code = 1 → t.total = t'.total ∧ t.hist = t'.hist ∧ t.status.histv = t'.status.histv)
    ∧ (code = 3 → t.st = t'.st ∧ t.status.statv = t'.status.statv)
    ∧ (code = 2 → t.status.decv = t'.status.decv ∧ (t.status.decv = true → t.dr = t'.dr))
    ∧ (code = 4 ∨ code = 5 ∨ code = 6 ∨ code = 7 → t.status.xv = t'.status.xv ∧ (t.status.err = .none → t.xres = t'.xres))

/-- The invariants hold after reset (10_state.md section 9). The machine after reset meets Inv and HistAccounts. -/
def Obligations.ResetMeetsInv : Prop :=
  Inv State.reset ∧ HistAccounts State.reset

/-- Every step keeps the invariant (10_state.md section 3, 10_state.md section 5, 44_classifier.md section 3). From
every state that meets Inv a step to a next state gives a state that meets Inv: the memory stays canonical; in RUN
one of CLASSIFY, DECODE, STATS is in execution without error on a non-null buffer, its cursor in bounds, its group's
valid flag 0; a pass is at DISPATCH or ACCUM, past its last block only at DISPATCH, and holds a list of buckets only
at ACCUM; in NONE no command has left a trace (the list and the mark as state are log entry 7). -/
def Obligations.StepKeepsInv : Prop :=
  ∀ s t : State, Inv s → step s = .next t → Inv t

/-- The machine never stops (60_exceptions.md section 4, 44_classifier.md section 3, 45_statistics.md section 3). From
every state that meets Inv, a step gives a next state: no fault and no refusal can be reached, whatever the host
asks and whatever the buffer holds (the stop states are log entry 10). -/
def Obligations.StepNeverStops : Prop :=
  ∀ s : State, Inv s → ∃ t, step s = .next t

/-- The histogram adds up at every moment of a pass (44_classifier.md section 3). From every state that meets Inv and
HistAccounts a step gives one that meets HistAccounts: TOTAL is the number of blocks taken, the buckets sum to
TOTAL, to twice TOTAL for BC5 with each channel's pair summing to TOTAL, and for BC2 to 0 or TOTAL as the parameter
says; at ACCUM the list to be counted is that of rule R254 for the block at the cursor. -/
def Obligations.StepKeepsHistAccounts : Prop :=
  ∀ s t : State, Inv s → HistAccounts s → step s = .next t → HistAccounts t

/-- Where an instruction is refused (93_implementation_defined.md section 1, 20_memory.md section 4). A command executed
while PHASE = RUN is refused, as U12 asks; a block executed while neither a CLASSIFY at DISPATCH within bounds nor a
DECODE fetches one is refused (the model's choice, log entry 10). -/
def Obligations.StopsOutsideAPass : Prop :=
  ∀ (i : Instr) (s : State),
    (isCommand i = true → s.status.phase = .run → exec i s = .refused .commandDuringRun)
    ∧ (isCommand i = false → ¬ Dispatching s → ¬ Decoding s → exec i s = .refused .blockOutsidePass)

/-- Where a NaN appears and where it does not (45_statistics.md section 1). fadd, fsub, fmul, fdiv with a NaN operand
and fsqrt of a NaN or of a negative number deliver a NaN, whatever the free value is (log entry 3); comparison with
a NaN is false; under the default of the open field of NUM, fmin and fmax of an accumulator that is no NaN are no
NaN, and a NaN value leaves the accumulator as it is. -/
def Obligations.NaNPropagates : Prop :=
  (∀ a b : F32, (isNaN a = true ∨ isNaN b = true →
      isNaN (fadd a b) = true ∧ isNaN (fsub a b) = true ∧ isNaN (fmul a b) = true ∧ isNaN (fdiv a b) = true ∧ flt a b = false)
    ∧ (isNaN a = true ∨ (fNeg a = true ∧ fKey a < 0) → isNaN (fsqrt a) = true))
  ∧ (∀ acc v : F32, isNaN acc = false →
    isNaN (fmin .keepAccumulator acc v) = false ∧ isNaN (fmax .keepAccumulator acc v) = false
    ∧ (isNaN v = true → fmin .keepAccumulator acc v = acc ∧ fmax .keepAccumulator acc v = acc))

/-- The special cases of the numerics record, and its minimum, maximum and dot product (45_statistics.md section 1). The
cases rule R281 names: fdiv by zero, inf - inf, 0 · inf, inf + -inf, +0 + -0, square roots of zeros and infinity, -0
< +0 false, isfinite; an infinity with a finite operand, and with another infinity, under each operation and under
flt; fmin and fmax by flt, under the default and under the variant in which a NaN replaces the accumulator (log
entry 16); fdot3 as the two fadd of the three fmul with the encodings of K0, K1, K2. -/
def Obligations.NumericSpecials : Prop :=
  (∀ a : F32, isFinite a = true → fKey a ≠ 0 → fdiv a 0 = fInf (fNeg a) ∧ fdiv a 0x80000000 = fInf (!fNeg a))
    ∧ isNaN (fdiv 0 0) = true ∧ isNaN (fdiv 0x80000000 0) = true ∧ isNaN (fsub 0x7F800000 0x7F800000) = true
    ∧ isNaN (fmul 0 0x7F800000) = true ∧ isNaN (fadd 0x7F800000 0xFF800000) = true ∧ fadd 0 0x80000000 = 0
    ∧ fsqrt 0 = 0 ∧ fsqrt 0x80000000 = 0x80000000 ∧ fsqrt 0x7F800000 = 0x7F800000 ∧ flt 0x80000000 0 = false
    ∧ (∀ a : F32, isFinite a = false ↔ isNaN a = true ∨ a = 0x7F800000 ∨ a = 0xFF800000)
    ∧ (∀ (a : F32) (n : Bool), isFinite a = true →
      fadd a (fInf n) = fInf n ∧ fadd (fInf n) a = fInf n ∧ fsub (fInf n) a = fInf n ∧ fsub a (fInf n) = fInf (!n)
      ∧ (fKey a ≠ 0 → fmul a (fInf n) = fInf (fNeg a != n) ∧ fmul (fInf n) a = fInf (fNeg a != n))
      ∧ fdiv (fInf n) a = fInf (fNeg a != n) ∧ fdiv a (fInf n) = fZero (fNeg a != n)
      ∧ flt a (fInf n) = !n ∧ flt (fInf n) a = n)
    ∧ (∀ m n : Bool, (m = n → fadd (fInf m) (fInf n) = fInf m) ∧ (m ≠ n → fsub (fInf m) (fInf n) = fInf m)
      ∧ fmul (fInf m) (fInf n) = fInf (m != n) ∧ isNaN (fdiv (fInf m) (fInf n)) = true ∧ flt (fInf m) (fInf n) = (m && !n))
    ∧ fInf false = 0x7F800000 ∧ fInf true = 0xFF800000 ∧ fZero false = 0 ∧ fZero true = 0x80000000
    ∧ (∀ acc x : F32, fmin .keepAccumulator acc x = (if flt x acc then x else acc)
      ∧ fmax .keepAccumulator acc x = (if flt acc x then x else acc)
      ∧ fmin .takeNaN acc x = (if isNaN x ∨ flt x acc then x else acc)
      ∧ fmax .takeNaN acc x = (if isNaN x ∨ flt acc x then x else acc))
    ∧ (∀ r g b : F32, fdot3 r g b = fadd (fadd (fmul r 0x3E99999A) (fmul g 0x3F170A3D)) (fmul b 0x3DE147AE))

/-- The numerics on finite values round to nearest, ties to even (45_statistics.md section 1, 92_eei_decisions.md D22).
On finite operands fadd, fsub, fmul, fdiv (by a non-zero value) and fsqrt (of a positive value) deliver the exact
real result rounded to the nearest binary32 value, ties to even, subnormals kept, an infinity only from half way
beyond the largest finite value on, with the sign of the exact result; an exact zero sum is -0 only where both terms
are negative zeros, and products and quotients have the exclusive or of the signs also where they are zero; flt is
the order of the values; ofnat rounds every natural number and is exact up to 2^24, and is never negative; K0, K1,
K2 are 0.3, 0.59 and 0.11 so rounded. -/
def Obligations.FiniteArithmeticRounds : Prop :=
  (∀ a b : F32, isFinite a = true → isFinite b = true →
    ((Spec.val a + Spec.val b ≠ 0 → Spec.Rounded (Spec.val a + Spec.val b : ℚ) (fadd a b))
      ∧ (Spec.val a + Spec.val b = 0 → fadd a b = if fNeg a && fNeg b then 0x80000000 else 0))
    ∧ ((Spec.val a - Spec.val b ≠ 0 → Spec.Rounded (Spec.val a - Spec.val b : ℚ) (fsub a b))
      ∧ (Spec.val a - Spec.val b = 0 → fsub a b = if fNeg a && !fNeg b then 0x80000000 else 0))
    ∧ (Spec.Rounded (Spec.val a * Spec.val b : ℚ) (fmul a b) ∧ fNeg (fmul a b) = (fNeg a != fNeg b))
    ∧ (Spec.val b ≠ 0 → Spec.Rounded (Spec.val a / Spec.val b : ℚ) (fdiv a b) ∧ fNeg (fdiv a b) = (fNeg a != fNeg b))
    ∧ (0 < Spec.val a → Spec.Rounded (Real.sqrt (Spec.val a : ℝ)) (fsqrt a))
    ∧ (flt a b = true ↔ Spec.val a < Spec.val b))
  ∧ (∀ n : Nat, Spec.Rounded (n : ℝ) (ofnat n) ∧ fNeg (ofnat n) = false
    ∧ (n ≤ 2 ^ 24 → isFinite (ofnat n) = true ∧ Spec.val (ofnat n) = n))
  ∧ Spec.Rounded (3 / 10) 0x3E99999A ∧ Spec.Rounded (59 / 100) 0x3F170A3D ∧ Spec.Rounded (11 / 100) 0x3DE147AE

/-- Under the launch premises EXTRACT and DECODE read loaded bytes (70_reset_and_hazards.md section 3). Under the launch
premises of EXTRACT (and of DECODE), every byte of the block at (BY, BX) is one the host has loaded, so no free
value can reach the result. -/
def Obligations.ExtentCoversExtract : Prop :=
  ∀ (s : State) (fmt : Format) (code : Nibble) (k : Nat), code = 2 ∨ code = 4 → Format.ofTag s.cr.fmt = some fmt →
    LaunchPremises s code → k < fmt.nblk →
    ∃ b, Memory.get? s.mem (blockAddr s.cr fmt.nblk s.cr.bY.toNat s.cr.bX.toNat + BitVec.ofNat 64 k).toNat = some b
      ∧ memByte s.mem (blockAddr s.cr fmt.nblk s.cr.bY.toNat s.cr.bX.toNat + BitVec.ofNat 64 k) = b
end

