-- ==== Sys2Proof/Laws/State.lean ====
section
/-!
SUPPORT. One lemma per field per update of the state, all true by `rfl`: no later proof unfolds a record update.
-/

namespace Sys2Proof.Machine

variable (s : State)

@[simp] theorem raiseError_cr (e : ErrCode) (x : Word64) : (raiseError e x s).cr = s.cr := rfl
@[simp] theorem raiseError_crCmd (e : ErrCode) (x : Word64) : (raiseError e x s).crCmd = s.crCmd := rfl
@[simp] theorem raiseError_status (e : ErrCode) (x : Word64) : (raiseError e x s).status = { s.status with phase := .terminal, err := e } := rfl
@[simp] theorem raiseError_einfo (e : ErrCode) (x : Word64) : (raiseError e x s).einfo = x := rfl
@[simp] theorem raiseError_xres (e : ErrCode) (x : Word64) : (raiseError e x s).xres = s.xres := rfl
@[simp] theorem raiseError_total (e : ErrCode) (x : Word64) : (raiseError e x s).total = s.total := rfl
@[simp] theorem raiseError_hist (e : ErrCode) (x : Word64) : (raiseError e x s).hist = s.hist := rfl
@[simp] theorem raiseError_st (e : ErrCode) (x : Word64) : (raiseError e x s).st = s.st := rfl
@[simp] theorem raiseError_dr (e : ErrCode) (x : Word64) : (raiseError e x s).dr = s.dr := rfl
@[simp] theorem raiseError_hs (e : ErrCode) (x : Word64) : (raiseError e x s).hs = s.hs := rfl
@[simp] theorem raiseError_mem (e : ErrCode) (x : Word64) : (raiseError e x s).mem = s.mem := rfl
@[simp] theorem raiseError_params (e : ErrCode) (x : Word64) : (raiseError e x s).params = s.params := rfl
@[simp] theorem raiseError_buckets (e : ErrCode) (x : Word64) : (raiseError e x s).buckets = s.buckets := rfl
@[simp] theorem raiseError_exhausted (e : ErrCode) (x : Word64) : (raiseError e x s).exhausted = s.exhausted := rfl
@[simp] theorem raiseError_inbox (e : ErrCode) (x : Word64) : (raiseError e x s).inbox = s.inbox := rfl
@[simp] theorem raiseError_readData (e : ErrCode) (x : Word64) : (raiseError e x s).readData = s.readData := rfl

@[simp] theorem startCommand_cr (code : Nibble) : (startCommand code s).cr = s.cr := rfl
@[simp] theorem startCommand_crCmd (code : Nibble) : (startCommand code s).crCmd = none := rfl
@[simp] theorem startCommand_status (code : Nibble) : (startCommand code s).status = { s.status with phase := .run, err := .none } := rfl
@[simp] theorem startCommand_einfo (code : Nibble) : (startCommand code s).einfo = 0 := rfl
@[simp] theorem startCommand_xres (code : Nibble) : (startCommand code s).xres = s.xres := rfl
@[simp] theorem startCommand_total (code : Nibble) : (startCommand code s).total = s.total := rfl
@[simp] theorem startCommand_hist (code : Nibble) : (startCommand code s).hist = s.hist := rfl
@[simp] theorem startCommand_st (code : Nibble) : (startCommand code s).st = s.st := rfl
@[simp] theorem startCommand_dr (code : Nibble) : (startCommand code s).dr = s.dr := rfl
@[simp] theorem startCommand_hs (code : Nibble) : (startCommand code s).hs = { s.hs with cmd := code } := rfl
@[simp] theorem startCommand_mem (code : Nibble) : (startCommand code s).mem = s.mem := rfl
@[simp] theorem startCommand_params (code : Nibble) : (startCommand code s).params = s.params := rfl
@[simp] theorem startCommand_buckets (code : Nibble) : (startCommand code s).buckets = s.buckets := rfl
@[simp] theorem startCommand_exhausted (code : Nibble) : (startCommand code s).exhausted = s.exhausted := rfl
@[simp] theorem startCommand_inbox (code : Nibble) : (startCommand code s).inbox = s.inbox := rfl
@[simp] theorem startCommand_readData (code : Nibble) : (startCommand code s).readData = s.readData := rfl

@[simp] theorem endCommand_cr : (endCommand s).cr = s.cr := rfl
@[simp] theorem endCommand_crCmd : (endCommand s).crCmd = s.crCmd := rfl
@[simp] theorem endCommand_status : (endCommand s).status = { s.status with phase := .terminal } := rfl
@[simp] theorem endCommand_einfo : (endCommand s).einfo = s.einfo := rfl
@[simp] theorem endCommand_xres : (endCommand s).xres = s.xres := rfl
@[simp] theorem endCommand_total : (endCommand s).total = s.total := rfl
@[simp] theorem endCommand_hist : (endCommand s).hist = s.hist := rfl
@[simp] theorem endCommand_st : (endCommand s).st = s.st := rfl
@[simp] theorem endCommand_dr : (endCommand s).dr = s.dr := rfl
@[simp] theorem endCommand_hs : (endCommand s).hs = s.hs := rfl
@[simp] theorem endCommand_mem : (endCommand s).mem = s.mem := rfl
@[simp] theorem endCommand_params : (endCommand s).params = s.params := rfl
@[simp] theorem endCommand_buckets : (endCommand s).buckets = s.buckets := rfl
@[simp] theorem endCommand_exhausted : (endCommand s).exhausted = s.exhausted := rfl
@[simp] theorem endCommand_inbox : (endCommand s).inbox = s.inbox := rfl
@[simp] theorem endCommand_readData : (endCommand s).readData = s.readData := rfl

@[simp] theorem setHistv_cr (v : Bool) : (setHistv v s).cr = s.cr := rfl
@[simp] theorem setHistv_crCmd (v : Bool) : (setHistv v s).crCmd = s.crCmd := rfl
@[simp] theorem setHistv_status (v : Bool) : (setHistv v s).status = { s.status with histv := v } := rfl
@[simp] theorem setHistv_einfo (v : Bool) : (setHistv v s).einfo = s.einfo := rfl
@[simp] theorem setHistv_xres (v : Bool) : (setHistv v s).xres = s.xres := rfl
@[simp] theorem setHistv_total (v : Bool) : (setHistv v s).total = s.total := rfl
@[simp] theorem setHistv_hist (v : Bool) : (setHistv v s).hist = s.hist := rfl
@[simp] theorem setHistv_st (v : Bool) : (setHistv v s).st = s.st := rfl
@[simp] theorem setHistv_dr (v : Bool) : (setHistv v s).dr = s.dr := rfl
@[simp] theorem setHistv_hs (v : Bool) : (setHistv v s).hs = s.hs := rfl
@[simp] theorem setHistv_mem (v : Bool) : (setHistv v s).mem = s.mem := rfl
@[simp] theorem setHistv_params (v : Bool) : (setHistv v s).params = s.params := rfl
@[simp] theorem setHistv_buckets (v : Bool) : (setHistv v s).buckets = s.buckets := rfl
@[simp] theorem setHistv_exhausted (v : Bool) : (setHistv v s).exhausted = s.exhausted := rfl
@[simp] theorem setHistv_inbox (v : Bool) : (setHistv v s).inbox = s.inbox := rfl
@[simp] theorem setHistv_readData (v : Bool) : (setHistv v s).readData = s.readData := rfl

@[simp] theorem setStatv_cr (v : Bool) : (setStatv v s).cr = s.cr := rfl
@[simp] theorem setStatv_crCmd (v : Bool) : (setStatv v s).crCmd = s.crCmd := rfl
@[simp] theorem setStatv_status (v : Bool) : (setStatv v s).status = { s.status with statv := v } := rfl
@[simp] theorem setStatv_einfo (v : Bool) : (setStatv v s).einfo = s.einfo := rfl
@[simp] theorem setStatv_xres (v : Bool) : (setStatv v s).xres = s.xres := rfl
@[simp] theorem setStatv_total (v : Bool) : (setStatv v s).total = s.total := rfl
@[simp] theorem setStatv_hist (v : Bool) : (setStatv v s).hist = s.hist := rfl
@[simp] theorem setStatv_st (v : Bool) : (setStatv v s).st = s.st := rfl
@[simp] theorem setStatv_dr (v : Bool) : (setStatv v s).dr = s.dr := rfl
@[simp] theorem setStatv_hs (v : Bool) : (setStatv v s).hs = s.hs := rfl
@[simp] theorem setStatv_mem (v : Bool) : (setStatv v s).mem = s.mem := rfl
@[simp] theorem setStatv_params (v : Bool) : (setStatv v s).params = s.params := rfl
@[simp] theorem setStatv_buckets (v : Bool) : (setStatv v s).buckets = s.buckets := rfl
@[simp] theorem setStatv_exhausted (v : Bool) : (setStatv v s).exhausted = s.exhausted := rfl
@[simp] theorem setStatv_inbox (v : Bool) : (setStatv v s).inbox = s.inbox := rfl
@[simp] theorem setStatv_readData (v : Bool) : (setStatv v s).readData = s.readData := rfl

@[simp] theorem setDecv_cr (v : Bool) : (setDecv v s).cr = s.cr := rfl
@[simp] theorem setDecv_crCmd (v : Bool) : (setDecv v s).crCmd = s.crCmd := rfl
@[simp] theorem setDecv_status (v : Bool) : (setDecv v s).status = { s.status with decv := v } := rfl
@[simp] theorem setDecv_einfo (v : Bool) : (setDecv v s).einfo = s.einfo := rfl
@[simp] theorem setDecv_xres (v : Bool) : (setDecv v s).xres = s.xres := rfl
@[simp] theorem setDecv_total (v : Bool) : (setDecv v s).total = s.total := rfl
@[simp] theorem setDecv_hist (v : Bool) : (setDecv v s).hist = s.hist := rfl
@[simp] theorem setDecv_st (v : Bool) : (setDecv v s).st = s.st := rfl
@[simp] theorem setDecv_dr (v : Bool) : (setDecv v s).dr = s.dr := rfl
@[simp] theorem setDecv_hs (v : Bool) : (setDecv v s).hs = s.hs := rfl
@[simp] theorem setDecv_mem (v : Bool) : (setDecv v s).mem = s.mem := rfl
@[simp] theorem setDecv_params (v : Bool) : (setDecv v s).params = s.params := rfl
@[simp] theorem setDecv_buckets (v : Bool) : (setDecv v s).buckets = s.buckets := rfl
@[simp] theorem setDecv_exhausted (v : Bool) : (setDecv v s).exhausted = s.exhausted := rfl
@[simp] theorem setDecv_inbox (v : Bool) : (setDecv v s).inbox = s.inbox := rfl
@[simp] theorem setDecv_readData (v : Bool) : (setDecv v s).readData = s.readData := rfl

@[simp] theorem setXv_cr (v : Bool) : (setXv v s).cr = s.cr := rfl
@[simp] theorem setXv_crCmd (v : Bool) : (setXv v s).crCmd = s.crCmd := rfl
@[simp] theorem setXv_status (v : Bool) : (setXv v s).status = { s.status with xv := v } := rfl
@[simp] theorem setXv_einfo (v : Bool) : (setXv v s).einfo = s.einfo := rfl
@[simp] theorem setXv_xres (v : Bool) : (setXv v s).xres = s.xres := rfl
@[simp] theorem setXv_total (v : Bool) : (setXv v s).total = s.total := rfl
@[simp] theorem setXv_hist (v : Bool) : (setXv v s).hist = s.hist := rfl
@[simp] theorem setXv_st (v : Bool) : (setXv v s).st = s.st := rfl
@[simp] theorem setXv_dr (v : Bool) : (setXv v s).dr = s.dr := rfl
@[simp] theorem setXv_hs (v : Bool) : (setXv v s).hs = s.hs := rfl
@[simp] theorem setXv_mem (v : Bool) : (setXv v s).mem = s.mem := rfl
@[simp] theorem setXv_params (v : Bool) : (setXv v s).params = s.params := rfl
@[simp] theorem setXv_buckets (v : Bool) : (setXv v s).buckets = s.buckets := rfl
@[simp] theorem setXv_exhausted (v : Bool) : (setXv v s).exhausted = s.exhausted := rfl
@[simp] theorem setXv_inbox (v : Bool) : (setXv v s).inbox = s.inbox := rfl
@[simp] theorem setXv_readData (v : Bool) : (setXv v s).readData = s.readData := rfl

@[simp] theorem finishX_cr (v : Word64) : (finishX v s).cr = s.cr := rfl
@[simp] theorem finishX_crCmd (v : Word64) : (finishX v s).crCmd = s.crCmd := rfl
@[simp] theorem finishX_status (v : Word64) : (finishX v s).status = { s.status with phase := .terminal, xv := true } := rfl
@[simp] theorem finishX_einfo (v : Word64) : (finishX v s).einfo = s.einfo := rfl
@[simp] theorem finishX_xres (v : Word64) : (finishX v s).xres = v := rfl
@[simp] theorem finishX_total (v : Word64) : (finishX v s).total = s.total := rfl
@[simp] theorem finishX_hist (v : Word64) : (finishX v s).hist = s.hist := rfl
@[simp] theorem finishX_st (v : Word64) : (finishX v s).st = s.st := rfl
@[simp] theorem finishX_dr (v : Word64) : (finishX v s).dr = s.dr := rfl
@[simp] theorem finishX_hs (v : Word64) : (finishX v s).hs = s.hs := rfl
@[simp] theorem finishX_mem (v : Word64) : (finishX v s).mem = s.mem := rfl
@[simp] theorem finishX_params (v : Word64) : (finishX v s).params = s.params := rfl
@[simp] theorem finishX_buckets (v : Word64) : (finishX v s).buckets = s.buckets := rfl
@[simp] theorem finishX_exhausted (v : Word64) : (finishX v s).exhausted = s.exhausted := rfl
@[simp] theorem finishX_inbox (v : Word64) : (finishX v s).inbox = s.inbox := rfl
@[simp] theorem finishX_readData (v : Word64) : (finishX v s).readData = s.readData := rfl

@[simp] theorem setCursor_cr (bY bX : Word64) : (setCursor bY bX s).cr = s.cr := rfl
@[simp] theorem setCursor_crCmd (bY bX : Word64) : (setCursor bY bX s).crCmd = s.crCmd := rfl
@[simp] theorem setCursor_status (bY bX : Word64) : (setCursor bY bX s).status = s.status := rfl
@[simp] theorem setCursor_einfo (bY bX : Word64) : (setCursor bY bX s).einfo = s.einfo := rfl
@[simp] theorem setCursor_xres (bY bX : Word64) : (setCursor bY bX s).xres = s.xres := rfl
@[simp] theorem setCursor_total (bY bX : Word64) : (setCursor bY bX s).total = s.total := rfl
@[simp] theorem setCursor_hist (bY bX : Word64) : (setCursor bY bX s).hist = s.hist := rfl
@[simp] theorem setCursor_st (bY bX : Word64) : (setCursor bY bX s).st = s.st := rfl
@[simp] theorem setCursor_dr (bY bX : Word64) : (setCursor bY bX s).dr = s.dr := rfl
@[simp] theorem setCursor_hs (bY bX : Word64) : (setCursor bY bX s).hs = { s.hs with bY := bY, bX := bX } := rfl
@[simp] theorem setCursor_mem (bY bX : Word64) : (setCursor bY bX s).mem = s.mem := rfl
@[simp] theorem setCursor_params (bY bX : Word64) : (setCursor bY bX s).params = s.params := rfl
@[simp] theorem setCursor_buckets (bY bX : Word64) : (setCursor bY bX s).buckets = s.buckets := rfl
@[simp] theorem setCursor_exhausted (bY bX : Word64) : (setCursor bY bX s).exhausted = s.exhausted := rfl
@[simp] theorem setCursor_inbox (bY bX : Word64) : (setCursor bY bX s).inbox = s.inbox := rfl
@[simp] theorem setCursor_readData (bY bX : Word64) : (setCursor bY bX s).readData = s.readData := rfl

@[simp] theorem setHStep_cr (h : HStep) : (setHStep h s).cr = s.cr := rfl
@[simp] theorem setHStep_crCmd (h : HStep) : (setHStep h s).crCmd = s.crCmd := rfl
@[simp] theorem setHStep_status (h : HStep) : (setHStep h s).status = s.status := rfl
@[simp] theorem setHStep_einfo (h : HStep) : (setHStep h s).einfo = s.einfo := rfl
@[simp] theorem setHStep_xres (h : HStep) : (setHStep h s).xres = s.xres := rfl
@[simp] theorem setHStep_total (h : HStep) : (setHStep h s).total = s.total := rfl
@[simp] theorem setHStep_hist (h : HStep) : (setHStep h s).hist = s.hist := rfl
@[simp] theorem setHStep_st (h : HStep) : (setHStep h s).st = s.st := rfl
@[simp] theorem setHStep_dr (h : HStep) : (setHStep h s).dr = s.dr := rfl
@[simp] theorem setHStep_hs (h : HStep) : (setHStep h s).hs = { s.hs with step := h } := rfl
@[simp] theorem setHStep_mem (h : HStep) : (setHStep h s).mem = s.mem := rfl
@[simp] theorem setHStep_params (h : HStep) : (setHStep h s).params = s.params := rfl
@[simp] theorem setHStep_buckets (h : HStep) : (setHStep h s).buckets = s.buckets := rfl
@[simp] theorem setHStep_exhausted (h : HStep) : (setHStep h s).exhausted = s.exhausted := rfl
@[simp] theorem setHStep_inbox (h : HStep) : (setHStep h s).inbox = s.inbox := rfl
@[simp] theorem setHStep_readData (h : HStep) : (setHStep h s).readData = s.readData := rfl

@[simp] theorem zeroAccumulator_cr : (zeroAccumulator s).cr = s.cr := rfl
@[simp] theorem zeroAccumulator_crCmd : (zeroAccumulator s).crCmd = s.crCmd := rfl
@[simp] theorem zeroAccumulator_status : (zeroAccumulator s).status = s.status := rfl
@[simp] theorem zeroAccumulator_einfo : (zeroAccumulator s).einfo = s.einfo := rfl
@[simp] theorem zeroAccumulator_xres : (zeroAccumulator s).xres = s.xres := rfl
@[simp] theorem zeroAccumulator_total : (zeroAccumulator s).total = 0 := rfl
@[simp] theorem zeroAccumulator_hist : (zeroAccumulator s).hist = Vector.replicate 15 0 := rfl
@[simp] theorem zeroAccumulator_st : (zeroAccumulator s).st = s.st := rfl
@[simp] theorem zeroAccumulator_dr : (zeroAccumulator s).dr = s.dr := rfl
@[simp] theorem zeroAccumulator_hs : (zeroAccumulator s).hs = s.hs := rfl
@[simp] theorem zeroAccumulator_mem : (zeroAccumulator s).mem = s.mem := rfl
@[simp] theorem zeroAccumulator_params : (zeroAccumulator s).params = s.params := rfl
@[simp] theorem zeroAccumulator_buckets : (zeroAccumulator s).buckets = s.buckets := rfl
@[simp] theorem zeroAccumulator_exhausted : (zeroAccumulator s).exhausted = s.exhausted := rfl
@[simp] theorem zeroAccumulator_inbox : (zeroAccumulator s).inbox = s.inbox := rfl
@[simp] theorem zeroAccumulator_readData : (zeroAccumulator s).readData = s.readData := rfl

@[simp] theorem dispatchBlock_cr (bs : List (Fin 15)) : (dispatchBlock bs s).cr = s.cr := rfl
@[simp] theorem dispatchBlock_crCmd (bs : List (Fin 15)) : (dispatchBlock bs s).crCmd = s.crCmd := rfl
@[simp] theorem dispatchBlock_status (bs : List (Fin 15)) : (dispatchBlock bs s).status = s.status := rfl
@[simp] theorem dispatchBlock_einfo (bs : List (Fin 15)) : (dispatchBlock bs s).einfo = s.einfo := rfl
@[simp] theorem dispatchBlock_xres (bs : List (Fin 15)) : (dispatchBlock bs s).xres = s.xres := rfl
@[simp] theorem dispatchBlock_total (bs : List (Fin 15)) : (dispatchBlock bs s).total = s.total := rfl
@[simp] theorem dispatchBlock_hist (bs : List (Fin 15)) : (dispatchBlock bs s).hist = s.hist := rfl
@[simp] theorem dispatchBlock_st (bs : List (Fin 15)) : (dispatchBlock bs s).st = s.st := rfl
@[simp] theorem dispatchBlock_dr (bs : List (Fin 15)) : (dispatchBlock bs s).dr = s.dr := rfl
@[simp] theorem dispatchBlock_hs (bs : List (Fin 15)) : (dispatchBlock bs s).hs = { s.hs with step := .accum } := rfl
@[simp] theorem dispatchBlock_mem (bs : List (Fin 15)) : (dispatchBlock bs s).mem = s.mem := rfl
@[simp] theorem dispatchBlock_params (bs : List (Fin 15)) : (dispatchBlock bs s).params = s.params := rfl
@[simp] theorem dispatchBlock_buckets (bs : List (Fin 15)) : (dispatchBlock bs s).buckets = bs := rfl
@[simp] theorem dispatchBlock_exhausted (bs : List (Fin 15)) : (dispatchBlock bs s).exhausted = s.exhausted := rfl
@[simp] theorem dispatchBlock_inbox (bs : List (Fin 15)) : (dispatchBlock bs s).inbox = s.inbox := rfl
@[simp] theorem dispatchBlock_readData (bs : List (Fin 15)) : (dispatchBlock bs s).readData = s.readData := rfl

@[simp] theorem accumulate_cr : (accumulate s).cr = s.cr := rfl
@[simp] theorem accumulate_crCmd : (accumulate s).crCmd = s.crCmd := rfl
@[simp] theorem accumulate_status : (accumulate s).status = s.status := rfl
@[simp] theorem accumulate_einfo : (accumulate s).einfo = s.einfo := rfl
@[simp] theorem accumulate_xres : (accumulate s).xres = s.xres := rfl
@[simp] theorem accumulate_total : (accumulate s).total = s.total + 1 := rfl
@[simp] theorem accumulate_hist : (accumulate s).hist = s.buckets.foldl bumpBucket s.hist := rfl
@[simp] theorem accumulate_st : (accumulate s).st = s.st := rfl
@[simp] theorem accumulate_dr : (accumulate s).dr = s.dr := rfl
@[simp] theorem accumulate_hs : (accumulate s).hs = s.hs := rfl
@[simp] theorem accumulate_mem : (accumulate s).mem = s.mem := rfl
@[simp] theorem accumulate_params : (accumulate s).params = s.params := rfl
@[simp] theorem accumulate_buckets : (accumulate s).buckets = [] := rfl
@[simp] theorem accumulate_exhausted : (accumulate s).exhausted = s.exhausted := rfl
@[simp] theorem accumulate_inbox : (accumulate s).inbox = s.inbox := rfl
@[simp] theorem accumulate_readData : (accumulate s).readData = s.readData := rfl

@[simp] theorem setExhausted_cr (v : Bool) : (setExhausted v s).cr = s.cr := rfl
@[simp] theorem setExhausted_crCmd (v : Bool) : (setExhausted v s).crCmd = s.crCmd := rfl
@[simp] theorem setExhausted_status (v : Bool) : (setExhausted v s).status = s.status := rfl
@[simp] theorem setExhausted_einfo (v : Bool) : (setExhausted v s).einfo = s.einfo := rfl
@[simp] theorem setExhausted_xres (v : Bool) : (setExhausted v s).xres = s.xres := rfl
@[simp] theorem setExhausted_total (v : Bool) : (setExhausted v s).total = s.total := rfl
@[simp] theorem setExhausted_hist (v : Bool) : (setExhausted v s).hist = s.hist := rfl
@[simp] theorem setExhausted_st (v : Bool) : (setExhausted v s).st = s.st := rfl
@[simp] theorem setExhausted_dr (v : Bool) : (setExhausted v s).dr = s.dr := rfl
@[simp] theorem setExhausted_hs (v : Bool) : (setExhausted v s).hs = s.hs := rfl
@[simp] theorem setExhausted_mem (v : Bool) : (setExhausted v s).mem = s.mem := rfl
@[simp] theorem setExhausted_params (v : Bool) : (setExhausted v s).params = s.params := rfl
@[simp] theorem setExhausted_buckets (v : Bool) : (setExhausted v s).buckets = s.buckets := rfl
@[simp] theorem setExhausted_exhausted (v : Bool) : (setExhausted v s).exhausted = v := rfl
@[simp] theorem setExhausted_inbox (v : Bool) : (setExhausted v s).inbox = s.inbox := rfl
@[simp] theorem setExhausted_readData (v : Bool) : (setExhausted v s).readData = s.readData := rfl

@[simp] theorem endPass_cr : (endPass s).cr = s.cr := rfl
@[simp] theorem endPass_crCmd : (endPass s).crCmd = s.crCmd := rfl
@[simp] theorem endPass_status : (endPass s).status = { s.status with phase := .terminal, histv := true } := rfl
@[simp] theorem endPass_einfo : (endPass s).einfo = s.einfo := rfl
@[simp] theorem endPass_xres : (endPass s).xres = s.xres := rfl
@[simp] theorem endPass_total : (endPass s).total = s.total := rfl
@[simp] theorem endPass_hist : (endPass s).hist = s.hist := rfl
@[simp] theorem endPass_st : (endPass s).st = s.st := rfl
@[simp] theorem endPass_dr : (endPass s).dr = s.dr := rfl
@[simp] theorem endPass_hs : (endPass s).hs = s.hs := rfl
@[simp] theorem endPass_mem : (endPass s).mem = s.mem := rfl
@[simp] theorem endPass_params : (endPass s).params = s.params := rfl
@[simp] theorem endPass_buckets : (endPass s).buckets = s.buckets := rfl
@[simp] theorem endPass_exhausted : (endPass s).exhausted = false := rfl
@[simp] theorem endPass_inbox : (endPass s).inbox = s.inbox := rfl
@[simp] theorem endPass_readData : (endPass s).readData = s.readData := rfl

@[simp] theorem deliver_cr (d : DecodeResult) : (deliver d s).cr = s.cr := rfl
@[simp] theorem deliver_crCmd (d : DecodeResult) : (deliver d s).crCmd = s.crCmd := rfl
@[simp] theorem deliver_status (d : DecodeResult) : (deliver d s).status = { s.status with phase := .terminal, decv := true } := rfl
@[simp] theorem deliver_einfo (d : DecodeResult) : (deliver d s).einfo = s.einfo := rfl
@[simp] theorem deliver_xres (d : DecodeResult) : (deliver d s).xres = s.xres := rfl
@[simp] theorem deliver_total (d : DecodeResult) : (deliver d s).total = s.total := rfl
@[simp] theorem deliver_hist (d : DecodeResult) : (deliver d s).hist = s.hist := rfl
@[simp] theorem deliver_st (d : DecodeResult) : (deliver d s).st = s.st := rfl
@[simp] theorem deliver_dr (d : DecodeResult) : (deliver d s).dr = d := rfl
@[simp] theorem deliver_hs (d : DecodeResult) : (deliver d s).hs = s.hs := rfl
@[simp] theorem deliver_mem (d : DecodeResult) : (deliver d s).mem = s.mem := rfl
@[simp] theorem deliver_params (d : DecodeResult) : (deliver d s).params = s.params := rfl
@[simp] theorem deliver_buckets (d : DecodeResult) : (deliver d s).buckets = s.buckets := rfl
@[simp] theorem deliver_exhausted (d : DecodeResult) : (deliver d s).exhausted = s.exhausted := rfl
@[simp] theorem deliver_inbox (d : DecodeResult) : (deliver d s).inbox = s.inbox := rfl
@[simp] theorem deliver_readData (d : DecodeResult) : (deliver d s).readData = s.readData := rfl

@[simp] theorem startPixelPass_cr (h : HStep) : (startPixelPass h s).cr = s.cr := rfl
@[simp] theorem startPixelPass_crCmd (h : HStep) : (startPixelPass h s).crCmd = s.crCmd := rfl
@[simp] theorem startPixelPass_status (h : HStep) : (startPixelPass h s).status = s.status := rfl
@[simp] theorem startPixelPass_einfo (h : HStep) : (startPixelPass h s).einfo = s.einfo := rfl
@[simp] theorem startPixelPass_xres (h : HStep) : (startPixelPass h s).xres = s.xres := rfl
@[simp] theorem startPixelPass_total (h : HStep) : (startPixelPass h s).total = s.total := rfl
@[simp] theorem startPixelPass_hist (h : HStep) : (startPixelPass h s).hist = s.hist := rfl
@[simp] theorem startPixelPass_st (h : HStep) : (startPixelPass h s).st = s.st := rfl
@[simp] theorem startPixelPass_dr (h : HStep) : (startPixelPass h s).dr = s.dr := rfl
@[simp] theorem startPixelPass_hs (h : HStep) : (startPixelPass h s).hs = { s.hs with step := h, sum := zeroLanes, bY := 0, bX := 0 } := rfl
@[simp] theorem startPixelPass_mem (h : HStep) : (startPixelPass h s).mem = s.mem := rfl
@[simp] theorem startPixelPass_params (h : HStep) : (startPixelPass h s).params = s.params := rfl
@[simp] theorem startPixelPass_buckets (h : HStep) : (startPixelPass h s).buckets = s.buckets := rfl
@[simp] theorem startPixelPass_exhausted (h : HStep) : (startPixelPass h s).exhausted = s.exhausted := rfl
@[simp] theorem startPixelPass_inbox (h : HStep) : (startPixelPass h s).inbox = s.inbox := rfl
@[simp] theorem startPixelPass_readData (h : HStep) : (startPixelPass h s).readData = s.readData := rfl

@[simp] theorem startAccumulator_cr : (startAccumulator s).cr = s.cr := rfl
@[simp] theorem startAccumulator_crCmd : (startAccumulator s).crCmd = s.crCmd := rfl
@[simp] theorem startAccumulator_status : (startAccumulator s).status = { s.status with histv := false } := rfl
@[simp] theorem startAccumulator_einfo : (startAccumulator s).einfo = s.einfo := rfl
@[simp] theorem startAccumulator_xres : (startAccumulator s).xres = s.xres := rfl
@[simp] theorem startAccumulator_total : (startAccumulator s).total = 0 := rfl
@[simp] theorem startAccumulator_hist : (startAccumulator s).hist = Vector.replicate 15 0 := rfl
@[simp] theorem startAccumulator_st : (startAccumulator s).st = s.st := rfl
@[simp] theorem startAccumulator_dr : (startAccumulator s).dr = s.dr := rfl
@[simp] theorem startAccumulator_hs : (startAccumulator s).hs = s.hs := rfl
@[simp] theorem startAccumulator_mem : (startAccumulator s).mem = s.mem := rfl
@[simp] theorem startAccumulator_params : (startAccumulator s).params = s.params := rfl
@[simp] theorem startAccumulator_buckets : (startAccumulator s).buckets = s.buckets := rfl
@[simp] theorem startAccumulator_exhausted : (startAccumulator s).exhausted = s.exhausted := rfl
@[simp] theorem startAccumulator_inbox : (startAccumulator s).inbox = s.inbox := rfl
@[simp] theorem startAccumulator_readData : (startAccumulator s).readData = s.readData := rfl

@[simp] theorem startWalk_cr (empty : Bool) : (startWalk empty s).cr = s.cr := rfl
@[simp] theorem startWalk_crCmd (empty : Bool) : (startWalk empty s).crCmd = s.crCmd := rfl
@[simp] theorem startWalk_status (empty : Bool) : (startWalk empty s).status = s.status := rfl
@[simp] theorem startWalk_einfo (empty : Bool) : (startWalk empty s).einfo = s.einfo := rfl
@[simp] theorem startWalk_xres (empty : Bool) : (startWalk empty s).xres = s.xres := rfl
@[simp] theorem startWalk_total (empty : Bool) : (startWalk empty s).total = s.total := rfl
@[simp] theorem startWalk_hist (empty : Bool) : (startWalk empty s).hist = s.hist := rfl
@[simp] theorem startWalk_st (empty : Bool) : (startWalk empty s).st = s.st := rfl
@[simp] theorem startWalk_dr (empty : Bool) : (startWalk empty s).dr = s.dr := rfl
@[simp] theorem startWalk_hs (empty : Bool) : (startWalk empty s).hs = { s.hs with bY := 0, bX := 0, step := .dispatch } := rfl
@[simp] theorem startWalk_mem (empty : Bool) : (startWalk empty s).mem = s.mem := rfl
@[simp] theorem startWalk_params (empty : Bool) : (startWalk empty s).params = s.params := rfl
@[simp] theorem startWalk_buckets (empty : Bool) : (startWalk empty s).buckets = [] := rfl
@[simp] theorem startWalk_exhausted (empty : Bool) : (startWalk empty s).exhausted = empty := rfl
@[simp] theorem startWalk_inbox (empty : Bool) : (startWalk empty s).inbox = s.inbox := rfl
@[simp] theorem startWalk_readData (empty : Bool) : (startWalk empty s).readData = s.readData := rfl

@[simp] theorem startStatistics_cr : (startStatistics s).cr = s.cr := rfl
@[simp] theorem startStatistics_crCmd : (startStatistics s).crCmd = s.crCmd := rfl
@[simp] theorem startStatistics_status : (startStatistics s).status = { s.status with statv := false } := rfl
@[simp] theorem startStatistics_einfo : (startStatistics s).einfo = s.einfo := rfl
@[simp] theorem startStatistics_xres : (startStatistics s).xres = s.xres := rfl
@[simp] theorem startStatistics_total : (startStatistics s).total = s.total := rfl
@[simp] theorem startStatistics_hist : (startStatistics s).hist = s.hist := rfl
@[simp] theorem startStatistics_st : (startStatistics s).st = StatRegs.start (s.cr.width * s.cr.height) := rfl
@[simp] theorem startStatistics_dr : (startStatistics s).dr = s.dr := rfl
@[simp] theorem startStatistics_hs : (startStatistics s).hs = s.hs := rfl
@[simp] theorem startStatistics_mem : (startStatistics s).mem = s.mem := rfl
@[simp] theorem startStatistics_params : (startStatistics s).params = s.params := rfl
@[simp] theorem startStatistics_buckets : (startStatistics s).buckets = s.buckets := rfl
@[simp] theorem startStatistics_exhausted : (startStatistics s).exhausted = s.exhausted := rfl
@[simp] theorem startStatistics_inbox : (startStatistics s).inbox = s.inbox := rfl
@[simp] theorem startStatistics_readData : (startStatistics s).readData = s.readData := rfl

end Sys2Proof.Machine
end

