-- ==== Sys2Proof/Laws/Memory.lean ====
section
/-!
SUPPORT. The laws of the buffer memory: a read after a write, the canonical form kept by every memory operation, and equal
reads of equal memories in that form.
-/

namespace Sys2Proof.Machine

theorem sortedFrom_cons {lo : Nat} {c : Host.Cell} {cs : Memory} :
    Memory.sortedFrom lo (c :: cs) = true ↔ lo ≤ c.1 ∧ c.1 < 2 ^ 64 ∧ Memory.sortedFrom (c.1 + 1) cs = true := by
  simp [Memory.sortedFrom, and_assoc]

theorem sortedFrom_mono {lo hi : Nat} (h : lo ≤ hi) : ∀ {m : Memory}, Memory.sortedFrom hi m = true → Memory.sortedFrom lo m = true
  | [], _ => rfl
  | c :: cs, hm => by
    rw [sortedFrom_cons] at hm ⊢
    exact ⟨le_trans h hm.1, hm.2.1, hm.2.2⟩

/-- What a write of one byte does to the order of the entries. -/
theorem sortedFrom_set {a : Nat} {b : Byte} (ha : a < 2 ^ 64) :
    ∀ {lo : Nat} {m : Memory}, lo ≤ a → Memory.sortedFrom lo m = true → Memory.sortedFrom lo (Memory.set a b m) = true
  | lo, [], h, _ => by simp [Memory.set, Memory.sortedFrom, h]; omega
  | lo, c :: cs, h, hm => by
    rw [sortedFrom_cons] at hm
    unfold Memory.set
    split
    · rename_i hlt
      rw [sortedFrom_cons, sortedFrom_cons]
      exact ⟨h, ha, hlt, hm.2.1, hm.2.2⟩
    · split
      · rename_i heq
        subst heq
        rw [sortedFrom_cons]
        exact ⟨h, ha, hm.2.2⟩
      · rw [sortedFrom_cons]
        exact ⟨hm.1, hm.2.1, sortedFrom_set ha (by omega) hm.2.2⟩

/-- A write of one byte keeps the canonical form. -/
theorem wf_set {m : Memory} {a : Nat} {b : Byte} (ha : a < 2 ^ 64) (hm : Memory.wf m = true) :
    Memory.wf (Memory.set a b m) = true :=
  sortedFrom_set ha (Nat.zero_le a) hm

/-- The host's load of bytes keeps the canonical form. -/
theorem wf_memStore : ∀ {bs : List Byte} {m : Memory} {addr : Word64}, Memory.wf m = true → Memory.wf (memStore m addr bs) = true
  | [], _, _, hm => hm
  | b :: bs, m, addr, hm => wf_memStore (bs := bs) (m := Memory.set addr.toNat b m) (wf_set addr.isLt hm)

/-- The reset memory is canonical. -/
theorem wf_reset : Memory.wf State.reset.mem = true := rfl

theorem get?_of_sortedFrom {a : Nat} : ∀ {lo : Nat} {m : Memory}, a < lo → Memory.sortedFrom lo m = true → Memory.get? m a = none
  | _, [], _, _ => rfl
  | _, c :: cs, h, hm => by
    rw [sortedFrom_cons] at hm
    have hne : c.1 ≠ a := by omega
    simpa [Memory.get?, hne] using get?_of_sortedFrom (show a < c.1 + 1 by omega) hm.2.2

/-- A read after a write to the same place gives the byte written. -/
theorem get?_set_self {a : Nat} {b : Byte} : ∀ {m : Memory}, Memory.get? (Memory.set a b m) a = some b
  | [] => by simp [Memory.set, Memory.get?]
  | c :: cs => by
    unfold Memory.set
    split
    · simp [Memory.get?]
    · split
      · simp [Memory.get?]
      · rename_i h1 h2
        have hne : c.1 ≠ a := fun h => h2 h.symm
        simp [Memory.get?, hne, get?_set_self]

/-- A write leaves every other place alone. -/
theorem get?_set_ne {a x : Nat} {b : Byte} (hx : x ≠ a) : ∀ {m : Memory}, Memory.get? (Memory.set a b m) x = Memory.get? m x
  | [] => by simp [Memory.set, Memory.get?, hx.symm]
  | c :: cs => by
    unfold Memory.set
    split
    · simp [Memory.get?, hx.symm]
    · split
      · rename_i h
        subst h
        simp [Memory.get?, hx.symm]
      · by_cases hc : c.1 = x
        · simp [Memory.get?, hc]
        · simp [Memory.get?, hc, get?_set_ne hx]

/-- Equal memories in the canonical form are equal data: one that reads like another everywhere is the other. -/
theorem ext_of_sortedFrom : ∀ {lo : Nat} {m m' : Memory}, Memory.sortedFrom lo m = true → Memory.sortedFrom lo m' = true →
    (∀ a, Memory.get? m a = Memory.get? m' a) → m = m'
  | _, [], [], _, _, _ => rfl
  | _, [], c :: cs, _, _, h => by have := h c.1; simp [Memory.get?] at this
  | _, c :: cs, [], _, _, h => by have := h c.1; simp [Memory.get?] at this
  | lo, c :: cs, d :: ds, hm, hm', h => by
    rw [sortedFrom_cons] at hm hm'
    have hcd : c.1 = d.1 := by
      rcases Nat.lt_trichotomy c.1 d.1 with hlt | heq | hgt
      · have := h c.1
        have hd : d.1 ≠ c.1 := by omega
        simp [Memory.get?, hd, get?_of_sortedFrom (show c.1 < d.1 + 1 by omega) hm'.2.2] at this
      · exact heq
      · have := h d.1
        have hd : c.1 ≠ d.1 := by omega
        simp [Memory.get?, hd, get?_of_sortedFrom (show d.1 < c.1 + 1 by omega) hm.2.2] at this
    have hb : c.2 = d.2 := by
      have := h c.1
      simpa [Memory.get?, hcd] using this
    have htl : cs = ds := by
      refine ext_of_sortedFrom hm.2.2 (hcd ▸ hm'.2.2) fun a => ?_
      by_cases ha : a = c.1
      · subst ha
        rw [get?_of_sortedFrom (show c.1 < c.1 + 1 by omega) hm.2.2,
          get?_of_sortedFrom (show c.1 < d.1 + 1 by omega) hm'.2.2]
      · have := h a
        have h1 : c.1 ≠ a := fun e => ha e.symm
        have h2 : d.1 ≠ a := fun e => ha (hcd ▸ e.symm)
        simpa [Memory.get?, h1, h2] using this
    rw [show c = d from Prod.ext hcd hb, htl]

@[simp] theorem memBytes_length (m : Memory) : ∀ (n : Nat) (addr : Word64), (memBytes m addr n).length = n
  | 0, _ => rfl
  | n + 1, addr => by simp [memBytes, memBytes_length m n]

/-- An integer read from bytes fits their width. -/
theorem leNat_lt : ∀ bs : List Byte, leNat bs < 256 ^ bs.length
  | [] => by simp [leNat]
  | b :: bs => by
    have hb := b.isLt
    have := leNat_lt bs
    simp only [leNat, List.length_cons, pow_succ]
    omega

end Sys2Proof.Machine
end

