-- ==== Sys2Proof/Laws/Ops.lean ====
section
/-!
SUPPORT. For each shared operation, one lemma that says once everything it can do. Later proofs cite these and do not
unfold the operation.
-/

namespace Sys2Proof.Machine

variable {s t : State}

/-! ## Memory reads -/

/-- A memory read is the sum rule R60 writes. -/
theorem memRead_eq_readLE (m : Memory) (n : Nat) : ∀ addr : Word64, memRead m addr n = Spec.readLE m addr n := by
  induction n with
  | zero => intro addr; rfl
  | succ n ih =>
    intro addr
    have hs : ∀ i, addr + BitVec.ofNat 64 (i + 1) = addr + 1 + BitVec.ofNat 64 i := fun i => by
      rw [Nat.add_comm i 1, BitVec.ofNat_add, ← BitVec.add_assoc]
      rfl
    have ht : memRead m addr (n + 1) = (memByte m addr).toNat + 256 * memRead m (addr + 1) n := rfl
    rw [ht, ih]
    simp only [Spec.readLE, List.range_succ_eq_map, List.map_cons, List.sum_cons, List.map_map, ← List.sum_map_mul_left]
    congr 1
    · simp
    · congr 1
      refine List.map_congr_left fun i _ => ?_
      simp only [Function.comp, Nat.succ_eq_add_one, hs]
      rw [show 8 * (i + 1) = 8 + 8 * i by ring, pow_add]
      ring

/-! ## Commands -/

theorem runCommand_eq_next {code : Nibble} {act : State → State} :
    runCommand code act s = .next t ↔ Ready s ∧ t = act (startCommand code s) := by
  unfold runCommand Ready
  split <;> simp_all [eq_comm]

theorem runCommand_ready {code : Nibble} {act : State → State} (h : Ready s) :
    runCommand code act s = .next (act (startCommand code s)) :=
  runCommand_eq_next.mpr ⟨h, rfl⟩

theorem runCommand_running {code : Nibble} {act : State → State} (h : s.status.phase = .run) :
    runCommand code act s = .refused .commandDuringRun := by
  simp [runCommand, h]

theorem withFormat_unsupported {act : Format → State} (h : Format.ofTag s.cr.fmt = none) :
    withFormat s act = raiseError .unsupportedFormat (s.cr.fmt.setWidth 64) s := by
  simp [withFormat, h]

theorem withFormat_null {act : Format → State} {fmt : Format} (h : Format.ofTag s.cr.fmt = some fmt) (hb : s.cr.base = 0) :
    withFormat s act = raiseError .nullBuffer 0 s := by
  simp [withFormat, h, hb]

theorem withFormat_supported {act : Format → State} {fmt : Format} (h : Format.ofTag s.cr.fmt = some fmt)
    (hb : s.cr.base ≠ 0) : withFormat s act = act fmt := by
  simp only [withFormat, h, if_neg hb]

theorem withFormat_cases (s : State) (act : Format → State) :
    (Format.ofTag s.cr.fmt = none ∧ withFormat s act = raiseError .unsupportedFormat (s.cr.fmt.setWidth 64) s) ∨
    (∃ fmt, Format.ofTag s.cr.fmt = some fmt ∧ s.cr.base = 0 ∧ withFormat s act = raiseError .nullBuffer 0 s) ∨
    (∃ fmt, Format.ofTag s.cr.fmt = some fmt ∧ s.cr.base ≠ 0 ∧ withFormat s act = act fmt) := by
  cases h : Format.ofTag s.cr.fmt with
  | none => exact .inl ⟨rfl, withFormat_unsupported h⟩
  | some fmt =>
    by_cases hb : s.cr.base = 0
    · exact .inr (.inl ⟨fmt, rfl, hb, withFormat_null h hb⟩)
    · exact .inr (.inr ⟨fmt, rfl, hb, withFormat_supported h hb⟩)

theorem withTableOperands_cases (m : Nat) (v : Nat → Nat → Nat → Word64) (s : State) :
    (2 < s.cr.op0.toNat ∧ withTableOperands m v s = illegalOperand 7 (setXv false s)) ∨
    (s.cr.op0.toNat ≤ 2 ∧ 63 < s.cr.op1.toNat ∧ withTableOperands m v s = illegalOperand 8 (setXv false s)) ∨
    (s.cr.op0.toNat ≤ 2 ∧ s.cr.op1.toNat ≤ 63 ∧ m < s.cr.op2.toNat ∧
      withTableOperands m v s = illegalOperand 9 (setXv false s)) ∨
    (s.cr.op0.toNat ≤ 2 ∧ s.cr.op1.toNat ≤ 63 ∧ s.cr.op2.toNat ≤ m ∧
      withTableOperands m v s = finishX (v s.cr.op0.toNat s.cr.op1.toNat s.cr.op2.toNat) (setXv false s)) := by
  unfold withTableOperands
  split_ifs with h0 h1 h2
  · exact .inl ⟨h0, rfl⟩
  · exact .inr (.inl ⟨by omega, h1, rfl⟩)
  · exact .inr (.inr (.inl ⟨by omega, by omega, h2, rfl⟩))
  · exact .inr (.inr (.inr ⟨by omega, by omega, by omega, rfl⟩))

/-! ## Blocks -/

theorem fetchedBlock_dispatching {b : List (Fin 15)} {f : State → State} (h : Dispatching s) :
    fetchedBlock b f s = .next (dispatchBlock b s) := by
  simp [fetchedBlock, h.1.1, h.1.2, h.2.1, h.2.2]

theorem fetchedBlock_decoding {b : List (Fin 15)} {f : State → State} (h : Decoding s) :
    fetchedBlock b f s = .next (f s) := by
  simp [fetchedBlock, h.1, h.2]

theorem fetchedBlock_eq_next {b : List (Fin 15)} {f : State → State} :
    fetchedBlock b f s = .next t ↔ (Dispatching s ∧ t = dispatchBlock b s) ∨ (Decoding s ∧ t = f s) := by
  constructor
  · unfold fetchedBlock
    split_ifs with hc hd
    · exact fun e => .inl ⟨⟨⟨hc.1, hc.2.1⟩, hc.2.2⟩, by cases e; rfl⟩
    · exact fun e => .inr ⟨hd, by cases e; rfl⟩
    · exact nofun
  · rintro (⟨h, rfl⟩ | ⟨h, rfl⟩)
    · exact fetchedBlock_dispatching h
    · exact fetchedBlock_decoding h

theorem advance_cases (nr nc : Nat) (s : State) :
    (s.hs.bX.toNat + 1 < nc ∧ advance nr nc s = setCursor s.hs.bY (s.hs.bX + 1) s) ∨
    (nc ≤ s.hs.bX.toNat + 1 ∧ s.hs.bY.toNat + 1 < nr ∧ advance nr nc s = setCursor (s.hs.bY + 1) 0 s) ∨
    (nc ≤ s.hs.bX.toNat + 1 ∧ nr ≤ s.hs.bY.toNat + 1 ∧ advance nr nc s = setExhausted true s) := by
  unfold advance
  split
  · exact .inl ⟨‹_›, rfl⟩
  · split
    · exact .inr (.inl ⟨by omega, ‹_›, rfl⟩)
    · exact .inr (.inr ⟨by omega, by omega, rfl⟩)

/-- Everything the step from ACCUM does: the counts of rule R253, the cursor's advance of rule R30, DISPATCH again. -/
theorem accumStep_cases (s : State) :
    (s.hs.bX.toNat + 1 < walkCols s ∧
      accumStep s = setHStep .dispatch (setCursor s.hs.bY (s.hs.bX + 1) (accumulate s))) ∨
    (walkCols s ≤ s.hs.bX.toNat + 1 ∧ s.hs.bY.toNat + 1 < nrows s.cr ∧
      accumStep s = setHStep .dispatch (setCursor (s.hs.bY + 1) 0 (accumulate s))) ∨
    (walkCols s ≤ s.hs.bX.toNat + 1 ∧ nrows s.cr ≤ s.hs.bY.toNat + 1 ∧
      accumStep s = setHStep .dispatch (setExhausted true (accumulate s))) := by
  unfold accumStep
  rcases advance_cases (nrows s.cr) (walkCols s) (accumulate s) with ⟨h, e⟩ | ⟨h, h', e⟩ | ⟨h, h', e⟩
  · exact .inl ⟨h, by rw [e]; rfl⟩
  · exact .inr (.inl ⟨h, h', by rw [e]; rfl⟩)
  · exact .inr (.inr ⟨h, h', by rw [e]⟩)

/-! ## Pixels -/

theorem nextPixel_cases (done : State → State) (s : State) :
    (s.hs.bY.toNat * s.cr.width.toNat + s.hs.bX.toNat + 1 < s.st.npix.toNat ∧ s.hs.bX.toNat + 1 < s.cr.width.toNat ∧
      nextPixel done s = setCursor s.hs.bY (s.hs.bX + 1) s) ∨
    (s.hs.bY.toNat * s.cr.width.toNat + s.hs.bX.toNat + 1 < s.st.npix.toNat ∧ s.cr.width.toNat ≤ s.hs.bX.toNat + 1 ∧
      nextPixel done s = setCursor (s.hs.bY + 1) 0 s) ∨
    (s.st.npix.toNat ≤ s.hs.bY.toNat * s.cr.width.toNat + s.hs.bX.toNat + 1 ∧ nextPixel done s = done s) := by
  unfold nextPixel
  split
  · split
    · exact .inl ⟨‹_›, ‹_›, rfl⟩
    · exact .inr (.inl ⟨‹_›, by omega, rfl⟩)
  · exact .inr (.inr ⟨by omega, rfl⟩)

/-! ## The step -/

theorem resetDue_iff : resetDue s = true ↔ resetNow s := by
  unfold resetDue resetNow
  split
  · rename_i rest h
    simp [h]
  · rename_i h
    simp only [Bool.false_eq_true, false_iff, not_exists]
    exact fun rest hr => h rest hr

theorem resetDue_of_noResetNext (h : noResetNext s) : resetDue s = false := by
  rw [Bool.eq_false_iff, ne_eq, resetDue_iff]
  exact fun ⟨rest, hr⟩ => h 0 rest hr

theorem tickReset_of_noResetNext (h : noResetNext s) : tickReset s = s := by
  unfold tickReset
  split
  · rename_i k rest hr
    exact absurd hr (h (k + 1) rest)
  · rfl

/-- A tick changes the inbox and nothing else. -/
theorem tickReset_eq (s : State) : ∃ ib, tickReset s = { s with inbox := ib } := by
  unfold tickReset
  split
  · exact ⟨_, rfl⟩
  · exact ⟨s.inbox, rfl⟩

/-- Everything a step can do. -/
theorem step_cases (s : State) :
    (resetNow s ∧ step s = .next (hostStep s)) ∨
    (¬ resetNow s ∧ s.status.phase = .run ∧ step s = coreStep (tickReset s)) ∨
    (¬ resetNow s ∧ Ready s ∧ ∃ code, s.crCmd = some code ∧ step s = exec (decodeCommand code) s) ∨
    (¬ resetNow s ∧ Ready s ∧ s.crCmd = none ∧ step s = .next (hostStep s)) := by
  unfold step machineStep
  by_cases hr : resetDue s = true
  · exact .inl ⟨resetDue_iff.mp hr, by simp [hr]⟩
  · have hn : ¬ resetNow s := fun h => hr (resetDue_iff.mpr h)
    by_cases hp : s.status.phase = .run
    · exact .inr (.inl ⟨hn, hp, by simp [hr, hp]⟩)
    · cases hc : s.crCmd with
      | some code => exact .inr (.inr (.inl ⟨hn, hp, code, rfl, by simp [hr, hp]⟩))
      | none => exact .inr (.inr (.inr ⟨hn, hp, rfl, by simp [hr, hp]⟩))

/-- Everything a step of a CLASSIFY pass can do (rule R266). -/
theorem classifyStep_cases (s : State) :
    (s.hs.step = .dispatch ∧ s.exhausted = true ∧ classifyStep s = .next (endPass s)) ∨
    (s.hs.step = .dispatch ∧ s.exhausted = false ∧ classifyStep s = blockStep s) ∨
    (s.hs.step = .accum ∧ classifyStep s = .next (accumStep s)) ∨
    ((s.hs.step = .pass1 ∨ s.hs.step = .pass2) ∧ classifyStep s = .fault .stuckRun) := by
  unfold classifyStep
  cases h : s.hs.step with
  | dispatch => cases he : s.exhausted <;> simp
  | accum => simp
  | pass1 => simp
  | pass2 => simp

/-- Everything the core's step of a running command can do. -/
theorem coreStep_cases (s : State) :
    (s.hs.cmd = 1 ∧ coreStep s = classifyStep s) ∨
    (s.hs.cmd = 2 ∧ coreStep s = blockStep s) ∨
    (s.hs.cmd = 3 ∧ coreStep s = statsStep s) ∨
    (s.hs.cmd ≠ 1 ∧ s.hs.cmd ≠ 2 ∧ s.hs.cmd ≠ 3 ∧ coreStep s = .fault .stuckRun) := by
  unfold coreStep
  split_ifs with h1 h2 h3
  · exact .inl ⟨h1, rfl⟩
  · exact .inr (.inl ⟨h2, rfl⟩)
  · exact .inr (.inr (.inl ⟨h3, rfl⟩))
  · exact .inr (.inr (.inr ⟨h1, h2, h3, rfl⟩))

end Sys2Proof.Machine
end

