-- ==== Sys2Proof/Laws/PerInstr.lean ====
section
/-!
SUPPORT. The per-instruction family EncodeLength: an instruction's encoding is as long as its format says
(spec/30_encoding.md rule R90), and a command is one byte. One lemma per constructor.
-/

namespace Sys2Proof.Laws.EncodeLength

/-- The bytes of `i` are as many as every format that selects it has; a command, which no format selects, has one. -/
def Statement (i : Instr) : Prop :=
  (∀ tag ∈ tagsOf i, ∃ fmt, Format.ofTag tag = some fmt ∧ (encode i).length = fmt.nblk)
    ∧ (tagsOf i = [] → (encode i).length = 1)

theorem bytesOfBlock_length : ∀ (n : Nat) (B : BitVec 128), (bytesOfBlock n B).length = n
  | 0, _ => rfl
  | n + 1, B => by simp [bytesOfBlock, bytesOfBlock_length n]

theorem of_block {i : Instr} {tag : Nibble} {fmt : Format} {n : Nat} {B : BitVec 128} (ht : tagsOf i = [tag])
    (hf : Format.ofTag tag = some fmt) (he : encodeBits i = some (n, B)) (hn : n = fmt.nblk) : Statement i := by
  refine ⟨fun t h => ?_, fun h => by simp [ht] at h⟩
  rw [ht, List.mem_singleton] at h
  subst h
  exact ⟨fmt, hf, by simp [encode, he, bytesOfBlock_length, hn]⟩

theorem of_bc6h {i : Instr} {B : BitVec 128} (ht : tagsOf i = [8, 9]) (he : encodeBits i = some (16, B)) : Statement i := by
  refine ⟨fun t h => ?_, fun h => by simp [ht] at h⟩
  rw [ht] at h
  rcases List.mem_pair.mp h with rfl | rfl
  · exact ⟨.bc6hu, rfl, by simp [encode, he, bytesOfBlock_length, Format.nblk]⟩
  · exact ⟨.bc6hs, rfl, by simp [encode, he, bytesOfBlock_length, Format.nblk]⟩

theorem of_command {i : Instr} (ht : tagsOf i = []) (he : encodeBits i = none) : Statement i :=
  ⟨fun t h => by simp [ht] at h, fun _ => by simp [encode, he]⟩

theorem bc1 (c0 c1 : BitVec 16) (idx : BitVec 32) : Statement (.bc1 c0 c1 idx) := of_block rfl rfl rfl rfl
theorem bc2 (abm : BitVec 64) (c0 c1 : BitVec 16) (idx : BitVec 32) : Statement (.bc2 abm c0 c1 idx) := of_block rfl rfl rfl rfl
theorem bc3 (a0 a1 : BitVec 8) (aidx : BitVec 48) (c0 c1 : BitVec 16) (idx : BitVec 32) : Statement (.bc3 a0 a1 aidx c0 c1 idx) := of_block rfl rfl rfl rfl
theorem bc4u (e0 e1 : BitVec 8) (idx : BitVec 48) : Statement (.bc4u e0 e1 idx) := of_block rfl rfl rfl rfl
theorem bc4s (e0 e1 : BitVec 8) (idx : BitVec 48) : Statement (.bc4s e0 e1 idx) := of_block rfl rfl rfl rfl
theorem bc5u (ue0 ue1 : BitVec 8) (uidx : BitVec 48) (ve0 ve1 : BitVec 8) (vidx : BitVec 48) : Statement (.bc5u ue0 ue1 uidx ve0 ve1 vidx) := of_block rfl rfl rfl rfl
theorem bc5s (ue0 ue1 : BitVec 8) (uidx : BitVec 48) (ve0 ve1 : BitVec 8) (vidx : BitVec 48) : Statement (.bc5s ue0 ue1 uidx ve0 ve1 vidx) := of_block rfl rfl rfl rfl
theorem bc6hM1 (f : Bc6hTwo 10 5 5 5) : Statement (.bc6hM1 f) := of_bc6h rfl rfl
theorem bc6hM2 (f : Bc6hTwo 7 6 6 6) : Statement (.bc6hM2 f) := of_bc6h rfl rfl
theorem bc6hM3 (f : Bc6hTwo 11 5 4 4) : Statement (.bc6hM3 f) := of_bc6h rfl rfl
theorem bc6hM4 (f : Bc6hTwo 11 4 5 4) : Statement (.bc6hM4 f) := of_bc6h rfl rfl
theorem bc6hM5 (f : Bc6hTwo 11 4 4 5) : Statement (.bc6hM5 f) := of_bc6h rfl rfl
theorem bc6hM6 (f : Bc6hTwo 9 5 5 5) : Statement (.bc6hM6 f) := of_bc6h rfl rfl
theorem bc6hM7 (f : Bc6hTwo 8 6 5 5) : Statement (.bc6hM7 f) := of_bc6h rfl rfl
theorem bc6hM8 (f : Bc6hTwo 8 5 6 5) : Statement (.bc6hM8 f) := of_bc6h rfl rfl
theorem bc6hM9 (f : Bc6hTwo 8 5 5 6) : Statement (.bc6hM9 f) := of_bc6h rfl rfl
theorem bc6hM10 (f : Bc6hTwo 6 6 6 6) : Statement (.bc6hM10 f) := of_bc6h rfl rfl
theorem bc6hM11 (f : Bc6hOne 10 10) : Statement (.bc6hM11 f) := of_bc6h rfl rfl
theorem bc6hM12 (f : Bc6hOne 11 9) : Statement (.bc6hM12 f) := of_bc6h rfl rfl
theorem bc6hM13 (f : Bc6hOne 12 8) : Statement (.bc6hM13 f) := of_bc6h rfl rfl
theorem bc6hM14 (f : Bc6hOne 16 4) : Statement (.bc6hM14 f) := of_bc6h rfl rfl
theorem bc6hRsvd13 (rest : BitVec 123) : Statement (.bc6hRsvd13 rest) := of_bc6h rfl rfl
theorem bc6hRsvd17 (rest : BitVec 123) : Statement (.bc6hRsvd17 rest) := of_bc6h rfl rfl
theorem bc6hRsvd1B (rest : BitVec 123) : Statement (.bc6hRsvd1B rest) := of_bc6h rfl rfl
theorem bc6hRsvd1F (rest : BitVec 123) : Statement (.bc6hRsvd1F rest) := of_bc6h rfl rfl
theorem bc7M0 (f : Bc7Fields 4 0 0 6 4 0 6 45 0) : Statement (.bc7M0 f) := of_block rfl rfl rfl rfl
theorem bc7M1 (f : Bc7Fields 6 0 0 4 6 0 2 46 0) : Statement (.bc7M1 f) := of_block rfl rfl rfl rfl
theorem bc7M2 (f : Bc7Fields 6 0 0 6 5 0 0 29 0) : Statement (.bc7M2 f) := of_block rfl rfl rfl rfl
theorem bc7M3 (f : Bc7Fields 6 0 0 4 7 0 4 30 0) : Statement (.bc7M3 f) := of_block rfl rfl rfl rfl
theorem bc7M4 (f : Bc7Fields 0 2 1 2 5 6 0 31 47) : Statement (.bc7M4 f) := of_block rfl rfl rfl rfl
theorem bc7M5 (f : Bc7Fields 0 2 0 2 7 8 0 31 31) : Statement (.bc7M5 f) := of_block rfl rfl rfl rfl
theorem bc7M6 (f : Bc7Fields 0 0 0 2 7 7 2 63 0) : Statement (.bc7M6 f) := of_block rfl rfl rfl rfl
theorem bc7M7 (f : Bc7Fields 6 0 0 4 5 5 4 30 0) : Statement (.bc7M7 f) := of_block rfl rfl rfl rfl
theorem bc7Rsvd (rest : BitVec 120) : Statement (.bc7Rsvd rest) := of_block rfl rfl rfl rfl
theorem classify : Statement .classify := of_command rfl rfl
theorem decode : Statement .decode := of_command rfl rfl
theorem stats : Statement .stats := of_command rfl rfl
theorem extract : Statement .extract := of_command rfl rfl
theorem sext : Statement .sext := of_command rfl rfl
theorem fixup : Statement .fixup := of_command rfl rfl
theorem isfix : Statement .isfix := of_command rfl rfl
theorem cmdIllegal0 : Statement .cmdIllegal0 := of_command rfl rfl
theorem cmdIllegal8to15 (code : Nibble) : Statement (.cmdIllegal8to15 code) := of_command rfl rfl

end Sys2Proof.Laws.EncodeLength
end

