-- ==== Sys2Proof/Tests/Slice0.lean ====
section
/-!
SUPPORT. The model's own tests. Expected values come from spec/95_test_vectors.md (the vector is named) or are worked by
hand from the rule named. First the checks of the syntax, then for every constructor of `Instr` a decoding and what it
does, then a witness for the hypotheses of every obligation that has some.
-/

namespace Sys2Proof.Tests

set_option Elab.async false

open Sys2Proof Sys2Proof.Machine

/-! ## WellFormed -/

/-- The one check refuses a code that the row CMD.ILLEGAL.8_15 does not hold. -/
theorem test_wellFormed_refuses : (Instr.cmdIllegal8to15 7).wellFormed = false ∧ (Instr.cmdIllegal8to15 0).wellFormed = false := by
  decide

/-- The least and the greatest code of the row are well formed. -/
theorem test_wellFormed_accepts : (Instr.cmdIllegal8to15 8).wellFormed = true ∧ (Instr.cmdIllegal8to15 15).wellFormed = true := by
  decide

/-! ## Helpers -/

/-- The descriptor of an image of one block at 0x1000. -/
def descr (fmt : Format) : CtrlRegs :=
  { CtrlRegs.zero with fmt := fmt.tag, width := 4, height := 4, pitch := BitVec.ofNat 64 fmt.nblk, base := 0x1000 }

/-- The command of code `code` in execution on that image, whose bytes are `bytes`. -/
def running (code : Nibble) (fmt : Format) (bytes : List Byte) : State :=
  { State.reset with
    cr := descr fmt, mem := memStore [] 0x1000 bytes, hs := { State.reset.hs with cmd := code }
    status := { State.reset.status with phase := .run } }

/-- The state after the step of a machine that may stop. -/
def stepped (s : State) : Option State :=
  match step s with
  | .next t => some t
  | .fault _ => none
  | .refused _ => none

/-- `DR` after the DECODE of a block. -/
def decoded (fmt : Format) (bytes : List Byte) : Option DecodeResult :=
  (stepped (running 2 fmt bytes)).bind fun s => if s.status.decv then some s.dr else none

/-- `ERR`, `EINFO` and `DECV` after the DECODE of a block. -/
def raised (fmt : Format) (bytes : List Byte) : Option (ErrCode × Word64 × Bool) :=
  (stepped (running 2 fmt bytes)).map fun s => (s.status.err, s.einfo, s.status.decv)

/-- The buckets a CLASSIFY of one block increments: DISPATCH, ACCUM, the end of the pass. -/
def hit (fmt : Format) (bytes : List Byte) : List Nat :=
  match ((stepped (running 1 fmt bytes)).bind stepped).bind stepped with
  | some s => if s.status.histv && s.total == 1 then (List.range 15).filter fun k => s.hist.toList.getD k 0 == 1 else [99]
  | none => [99]

/-- The state after command `i` on the descriptor `cr`, from reset. -/
def after (i : Instr) (cr : CtrlRegs) : Option State :=
  match exec i { State.reset with cr := cr } with
  | .next t => some t
  | .fault _ => none
  | .refused _ => none

/-- The 2 by 2 image of R297 of 45_statistics.md before the last pixel of pass 1: pixel 3 is at 0x1030. -/
def r297 : State :=
  { running 3 .bc1 [] with
    cr := { CtrlRegs.zero with width := 2, height := 2, base := 0x1000 }
    mem := memStore [] 0x1030
      [0xCD, 0xCC, 0xCC, 0x3D, 0xCD, 0xCC, 0x4C, 0x3E, 0x9A, 0x99, 0x99, 0x3E, 0x00, 0x00, 0x80, 0x3F]
    st := { StatRegs.start 4 with min := #v[0x3F000000, 0x3E800000, 0xBF800000, 0] }
    hs := { cmd := 3, bY := 1, bX := 1, step := .pass1, sum := #v[0x40600000, 0x40880000, 0x40800000, 0x40C00000] } }

/-- `ST` after the finish of that STATS from its sums of pass 2. -/
def finished (d : VarDiv) : StatRegs :=
  (finishStats { r297 with
    params := { Params.default with varDiv := d }
    hs := { r297.hs with sum := #v[0x400147AE, 0x4049B851, 0x41177AE1, 0x410C0000] } }).st

/-- `STATUS` and `XRES` after an EXTRACT from the second of two BC1 blocks. -/
def extracted (off w : Nat) : Option (Word64 × Word64) :=
  match exec .extract { State.reset with
    mem := memStore [] 0x7008 [0xFF, 0x00, 0x88, 0xC6, 0xFA, 0x88, 0xC6, 0xFA]
    cr := { CtrlRegs.zero with fmt := 1, pitch := 64, base := 0x7000, bX := 1, op0 := BitVec.ofNat 64 off, op1 := BitVec.ofNat 64 w } } with
  | .next t => some (t.status.toWord, t.xres)
  | .fault _ => none
  | .refused _ => none

/-! ## Every constructor -/

/-- V420, row 8. -/
theorem test_decode_bc1 :
    decodeBlock 1 [0xFF, 0x7F, 0x00, 0x80, 0x67, 0x45, 0x23, 0x01]
      = .ok (.bc1 0x7FFF 0x8000 0x01234567) := by decide +kernel

/-- V420, row 8: transparent. -/
theorem test_exec_bc1 :
    (decoded .bc1 [0xFF, 0x7F, 0x00, 0x80, 0x67, 0x45, 0x23, 0x01]).map (fun d => decide (d.c565 = #v[0x7FFF, 0x8000] ∧ d.epraw[0] = #v[15, 63, 31, 0] ∧ d.epraw[1] = #v[16, 0, 0, 0] ∧ d.sub = 1 ∧ d.ix0 = #v[3, 1, 2, 1, 1, 1, 0, 1, 3, 0, 2, 0, 1, 0, 0, 0]))
      = some true
    ∧ hit .bc1 [0xFF, 0x7F, 0x00, 0x80, 0x67, 0x45, 0x23, 0x01] = [1] := by decide +kernel

/-- V421, row 1. -/
theorem test_decode_bc2 :
    decodeBlock 2 [0x10, 0x32, 0x54, 0x76, 0x98, 0xBA, 0xDC, 0xFE, 0x00, 0xF8, 0x1F, 0x00, 0xE4, 0xE4, 0xE4, 0xE4]
      = .ok (.bc2 0xFEDCBA9876543210 0xF800 0x001F 0xE4E4E4E4) := by decide +kernel

/-- V421, row 1: no bucket. -/
theorem test_exec_bc2 :
    (decoded .bc2 [0x10, 0x32, 0x54, 0x76, 0x98, 0xBA, 0xDC, 0xFE, 0x00, 0xF8, 0x1F, 0x00, 0xE4, 0xE4, 0xE4, 0xE4]).map (fun d => decide (d.c565 = #v[0xF800, 0x001F] ∧ d.epraw[0] = #v[31, 0, 0, 0] ∧ d.sub = 0 ∧ d.ix0 = #v[0, 1, 2, 3, 0, 1, 2, 3, 0, 1, 2, 3, 0, 1, 2, 3] ∧ d.ix1 = #v[0, 1, 2, 3, 4, 5, 6, 7, 8, 9, 10, 11, 12, 13, 14, 15]))
      = some true
    ∧ hit .bc2 [0x10, 0x32, 0x54, 0x76, 0x98, 0xBA, 0xDC, 0xFE, 0x00, 0xF8, 0x1F, 0x00, 0xE4, 0xE4, 0xE4, 0xE4] = [] := by decide +kernel

/-- V422, row 1. -/
theorem test_decode_bc3 :
    decodeBlock 3 [0x20, 0xC0, 0x88, 0xC6, 0xFA, 0x77, 0x39, 0x05, 0xFF, 0xFF, 0xE0, 0x07, 0x1B, 0x1B, 0x1B, 0x1B]
      = .ok (.bc3 32 192 0x053977FAC688 0xFFFF 0x07E0 0x1B1B1B1B) := by decide +kernel

/-- V422, row 1. -/
theorem test_exec_bc3 :
    (decoded .bc3 [0x20, 0xC0, 0x88, 0xC6, 0xFA, 0x77, 0x39, 0x05, 0xFF, 0xFF, 0xE0, 0x07, 0x1B, 0x1B, 0x1B, 0x1B]).map (fun d => decide (d.c565 = #v[0xFFFF, 0x07E0] ∧ d.epraw[0][3] = 32 ∧ d.epraw[1][3] = 192 ∧ d.sub = 1 ∧ d.ix0 = #v[3, 2, 1, 0, 3, 2, 1, 0, 3, 2, 1, 0, 3, 2, 1, 0] ∧ d.ix1 = #v[0, 1, 2, 3, 4, 5, 6, 7, 7, 6, 5, 4, 3, 2, 1, 0]))
      = some true
    ∧ hit .bc3 [0x20, 0xC0, 0x88, 0xC6, 0xFA, 0x77, 0x39, 0x05, 0xFF, 0xFF, 0xE0, 0x07, 0x1B, 0x1B, 0x1B, 0x1B] = [1] := by decide +kernel

/-- V423, row 2. -/
theorem test_decode_bc4u :
    decodeBlock 4 [0x80, 0x7F, 0x88, 0xC6, 0xFA, 0x77, 0x39, 0x05]
      = .ok (.bc4u 0x80 0x7F 0x053977FAC688) := by decide +kernel

/-- V423, row 2: the sub-type turns with the tag. -/
theorem test_exec_bc4u :
    (decoded .bc4u [0x80, 0x7F, 0x88, 0xC6, 0xFA, 0x77, 0x39, 0x05]).map (fun d => decide ((#v[d.epraw[0], d.epraw[1]] : Vector _ 2) = #v[#v[128, 0, 0, 0], #v[127, 0, 0, 0]] ∧ d.ndiv = 255 ∧ d.sub = 0 ∧ d.ix0 = #v[0, 1, 2, 3, 4, 5, 6, 7, 7, 6, 5, 4, 3, 2, 1, 0]))
      = some true
    ∧ hit .bc4u [0x80, 0x7F, 0x88, 0xC6, 0xFA, 0x77, 0x39, 0x05] = [0] := by decide +kernel

/-- V423, row 2. -/
theorem test_decode_bc4s :
    decodeBlock 5 [0x80, 0x7F, 0x88, 0xC6, 0xFA, 0x77, 0x39, 0x05]
      = .ok (.bc4s 0x80 0x7F 0x053977FAC688) := by decide +kernel

/-- V423, row 2: the sub-type turns with the tag. -/
theorem test_exec_bc4s :
    (decoded .bc4s [0x80, 0x7F, 0x88, 0xC6, 0xFA, 0x77, 0x39, 0x05]).map (fun d => decide ((#v[d.epraw[0], d.epraw[1]] : Vector _ 2) = #v[#v[0xFF80, 0, 0, 0], #v[0x007F, 0, 0, 0]] ∧ d.ndiv = 127 ∧ d.sub = 1 ∧ d.ix0 = #v[0, 1, 2, 3, 4, 5, 6, 7, 7, 6, 5, 4, 3, 2, 1, 0]))
      = some true
    ∧ hit .bc4s [0x80, 0x7F, 0x88, 0xC6, 0xFA, 0x77, 0x39, 0x05] = [1] := by decide +kernel

/-- V424, block 4. -/
theorem test_decode_bc5u :
    decodeBlock 6 [0x81, 0x7F, 0xBC, 0x9A, 0x78, 0x56, 0x34, 0x12, 0x7F, 0x81, 0xBC, 0x9A, 0x78, 0x56, 0x34, 0x12]
      = .ok (.bc5u 0x81 0x7F 0x123456789ABC 0x7F 0x81 0x123456789ABC) := by decide +kernel

/-- V424, block 4. -/
theorem test_exec_bc5u :
    (decoded .bc5u [0x81, 0x7F, 0xBC, 0x9A, 0x78, 0x56, 0x34, 0x12, 0x7F, 0x81, 0xBC, 0x9A, 0x78, 0x56, 0x34, 0x12]).map (fun d => decide (d.epraw[0] = #v[129, 127, 0, 0] ∧ d.epraw[1] = #v[127, 129, 0, 0] ∧ d.ndiv = 255 ∧ d.sub = 2 ∧ d.ix1 = #v[4, 7, 2, 5, 1, 1, 6, 3, 6, 2, 1, 2, 3, 4, 4, 0]))
      = some true
    ∧ hit .bc5u [0x81, 0x7F, 0xBC, 0x9A, 0x78, 0x56, 0x34, 0x12, 0x7F, 0x81, 0xBC, 0x9A, 0x78, 0x56, 0x34, 0x12] = [0, 3] := by decide +kernel

/-- V424, block 4. -/
theorem test_decode_bc5s :
    decodeBlock 7 [0x81, 0x7F, 0xBC, 0x9A, 0x78, 0x56, 0x34, 0x12, 0x7F, 0x81, 0xBC, 0x9A, 0x78, 0x56, 0x34, 0x12]
      = .ok (.bc5s 0x81 0x7F 0x123456789ABC 0x7F 0x81 0x123456789ABC) := by decide +kernel

/-- V424, block 4. -/
theorem test_exec_bc5s :
    (decoded .bc5s [0x81, 0x7F, 0xBC, 0x9A, 0x78, 0x56, 0x34, 0x12, 0x7F, 0x81, 0xBC, 0x9A, 0x78, 0x56, 0x34, 0x12]).map (fun d => decide (d.epraw[0] = #v[0xFF81, 0x007F, 0, 0] ∧ d.epraw[1] = #v[0x007F, 0xFF81, 0, 0] ∧ d.ndiv = 127 ∧ d.sub = 1 ∧ d.ix1 = #v[4, 7, 2, 5, 1, 1, 6, 3, 6, 2, 1, 2, 3, 4, 4, 0]))
      = some true
    ∧ hit .bc5s [0x81, 0x7F, 0xBC, 0x9A, 0x78, 0x56, 0x34, 0x12, 0x7F, 0x81, 0xBC, 0x9A, 0x78, 0x56, 0x34, 0x12] = [1, 2] := by decide +kernel

/-- V430, mode 1. -/
theorem test_decode_bc6hM1 :
    decodeBlock 8 [0x88, 0x47, 0x65, 0xBA, 0x64, 0xB9, 0x86, 0xD6, 0xF6, 0x30, 0xE6, 0x51, 0x9D, 0xF1, 0x50, 0x9D]
      = .ok (.bc6hM1 { rW := 0x23C, gW := 0xCA, bW := 0x25D, rX := 0xC, gX := 0x15, bX := 0xD, rY := 0x1B, gY := 0xC, bY := 0x16, rZ := 0x1, gZ := 0x10, bZ := 0xF, d := 0x11, idx := 0x27543C675479 }) := by decide +kernel

/-- V430, mode 1. -/
theorem test_exec_bc6hM1 :
    (decoded .bc6hs [0x88, 0x47, 0x65, 0xBA, 0x64, 0xB9, 0x86, 0xD6, 0xF6, 0x30, 0xE6, 0x51, 0x9D, 0xF1, 0x50, 0x9D]).map (fun d => decide (d.mode = 1 ∧ d.ns = 1 ∧ d.shape = 17 ∧ d.epraw[0] = #v[65084, 202, 65117, 0] ∧ d.ep[1] = #v[12, 65525, 13, 0] ∧ d.ix0 = #v[1, 6, 3, 0, 5, 2, 7, 4, 1, 6, 3, 0, 5, 2, 7, 4]))
      = some true
    ∧ hit .bc6hs [0x88, 0x47, 0x65, 0xBA, 0x64, 0xB9, 0x86, 0xD6, 0xF6, 0x30, 0xE6, 0x51, 0x9D, 0xF1, 0x50, 0x9D] = [0] := by decide +kernel

/-- V430, mode 2. -/
theorem test_decode_bc6hM2 :
    decodeBlock 9 [0xB1, 0x6E, 0xCE, 0xA4, 0x41, 0x2A, 0x7E, 0x6F, 0xD1, 0xA1, 0x78, 0xC6, 0x43, 0x75, 0xC6, 0x43]
      = .ok (.bc6hM2 { rW := 0x75, gW := 0x1C, bW := 0x52, rX := 0x8, gX := 0x31, bX := 0x1E, rY := 0x28, gY := 0x5, bY := 0x3B, rZ := 0x3, gZ := 0x2F, bZ := 0xE, d := 0x5, idx := 0x10F19D50F19E }) := by decide +kernel

/-- V430, mode 2. -/
theorem test_exec_bc6hM2 :
    (decoded .bc6hs [0xB1, 0x6E, 0xCE, 0xA4, 0x41, 0x2A, 0x7E, 0x6F, 0xD1, 0xA1, 0x78, 0xC6, 0x43, 0x75, 0xC6, 0x43]).map (fun d => decide (d.mode = 2 ∧ d.ns = 1 ∧ d.shape = 5 ∧ d.epraw[0] = #v[65525, 28, 65490, 0] ∧ d.ep[1] = #v[8, 65521, 30, 0] ∧ d.ix0 = #v[2, 7, 4, 1, 6, 3, 0, 5, 2, 7, 4, 1, 6, 3, 0, 1]))
      = some true
    ∧ hit .bc6hs [0xB1, 0x6E, 0xCE, 0xA4, 0x41, 0x2A, 0x7E, 0x6F, 0xD1, 0xA1, 0x78, 0xC6, 0x43, 0x75, 0xC6, 0x43] = [1] := by decide +kernel

/-- V430, mode 3. -/
theorem test_decode_bc6hM3 :
    decodeBlock 8 [0x42, 0xFF, 0x70, 0x8B, 0x73, 0xE1, 0xFD, 0xBB, 0x79, 0xE1, 0x8F, 0x74, 0xC6, 0x43, 0x75, 0xC6]
      = .ok (.bc6hM3 { rW := 0x7FA, gW := 0x2E1, bW := 0x5C5, rX := 0xE, gX := 0xF, bX := 0x7, rY := 0x1C, gY := 0x0, bY := 0xD, rZ := 0x2, gZ := 0xF, bZ := 0x7, d := 0x1F, idx := 0x319D50F19D23 }) := by decide +kernel

/-- V430, mode 3. -/
theorem test_exec_bc6hM3 :
    (decoded .bc6hs [0x42, 0xFF, 0x70, 0x8B, 0x73, 0xE1, 0xFD, 0xBB, 0x79, 0xE1, 0x8F, 0x74, 0xC6, 0x43, 0x75, 0xC6]).map (fun d => decide (d.mode = 3 ∧ d.ns = 1 ∧ d.shape = 31 ∧ d.epraw[0] = #v[65530, 737, 64965, 0] ∧ d.ep[1] = #v[14, 65535, 7, 0] ∧ d.ix0 = #v[3, 0, 1, 2, 7, 4, 1, 6, 3, 0, 5, 2, 7, 4, 1, 6]))
      = some true
    ∧ hit .bc6hs [0x42, 0xFF, 0x70, 0x8B, 0x73, 0xE1, 0xFD, 0xBB, 0x79, 0xE1, 0x8F, 0x74, 0xC6, 0x43, 0x75, 0xC6] = [2] := by decide +kernel

/-- V430, mode 4. -/
theorem test_decode_bc6hM4 :
    decodeBlock 9 [0xC6, 0xEB, 0x6C, 0x00, 0x9B, 0x57, 0x03, 0x38, 0x95, 0x41, 0x12, 0x0F, 0xD5, 0x89, 0x87, 0xEA]
      = .ok (.bc6hM4 { rW := 0x75E, gW := 0xD9, bW := 0x580, rX := 0x3, gX := 0x1A, bX := 0x0, rY := 0xA, gY := 0xB, bY := 0x9, rZ := 0x3, gZ := 0x10, bZ := 0x2, d := 0x12, idx := 0x3AA1E27543C4 }) := by decide +kernel

/-- V430, mode 4. -/
theorem test_exec_bc6hM4 :
    (decoded .bc6hs [0xC6, 0xEB, 0x6C, 0x00, 0x9B, 0x57, 0x03, 0x38, 0x95, 0x41, 0x12, 0x0F, 0xD5, 0x89, 0x87, 0xEA]).map (fun d => decide (d.mode = 4 ∧ d.ns = 1 ∧ d.shape = 18 ∧ d.epraw[0] = #v[65374, 217, 64896, 0] ∧ d.ep[1] = #v[3, 65530, 0, 0] ∧ d.ix0 = #v[0, 1, 6, 3, 0, 5, 2, 7, 0, 1, 6, 3, 0, 5, 2, 7]))
      = some true
    ∧ hit .bc6hs [0xC6, 0xEB, 0x6C, 0x00, 0x9B, 0x57, 0x03, 0x38, 0x95, 0x41, 0x12, 0x0F, 0xD5, 0x89, 0x87, 0xEA] = [3] := by decide +kernel

/-- V430, mode 5. -/
theorem test_decode_bc6hM5 :
    decodeBlock 8 [0xAA, 0xFB, 0x98, 0x91, 0xA6, 0xA3, 0xDD, 0x52, 0x9F, 0x22, 0xA5, 0x33, 0x1E, 0xAA, 0x33, 0x1E]
      = .ok (.bc6hM5 { rW := 0x7DD, gW := 0x331, bW := 0x748, rX := 0x4, gX := 0xD, bX := 0x5, rY := 0xF, gY := 0x1, bY := 0x1A, rZ := 0x5, gZ := 0xB, bZ := 0x1, d := 0x9, idx := 0x78CEA878CE9 }) := by decide +kernel

/-- V430, mode 5. -/
theorem test_exec_bc6hM5 :
    (decoded .bc6hs [0xAA, 0xFB, 0x98, 0x91, 0xA6, 0xA3, 0xDD, 0x52, 0x9F, 0x22, 0xA5, 0x33, 0x1E, 0xAA, 0x33, 0x1E]).map (fun d => decide (d.mode = 5 ∧ d.ns = 1 ∧ d.shape = 9 ∧ d.epraw[0] = #v[65501, 817, 65352, 0] ∧ d.ep[1] = #v[4, 65533, 5, 0] ∧ d.ix0 = #v[1, 2, 7, 4, 1, 6, 3, 0, 5, 2, 7, 4, 1, 6, 3, 0]))
      = some true
    ∧ hit .bc6hs [0xAA, 0xFB, 0x98, 0x91, 0xA6, 0xA3, 0xDD, 0x52, 0x9F, 0x22, 0xA5, 0x33, 0x1E, 0xAA, 0x33, 0x1E] = [4] := by decide +kernel

/-- V430, mode 6. -/
theorem test_decode_bc6hM6 :
    decodeBlock 9 [0x2E, 0x76, 0x0E, 0xEA, 0x72, 0x01, 0x22, 0xD3, 0xB4, 0x44, 0x3B, 0xAA, 0x33, 0x1E, 0xAA, 0x33]
      = .ok (.bc6hM6 { rW := 0x1B1, gW := 0x1C, bW := 0x175, rX := 0xE, gX := 0x10, bX := 0x6, rY := 0x1A, gY := 0x0, bY := 0x16, rZ := 0x9, gZ := 0x14, bZ := 0x2, d := 0x1A, idx := 0xCEA878CEA8E }) := by decide +kernel

/-- V430, mode 6. -/
theorem test_exec_bc6hM6 :
    (decoded .bc6hs [0x2E, 0x76, 0x0E, 0xEA, 0x72, 0x01, 0x22, 0xD3, 0xB4, 0x44, 0x3B, 0xAA, 0x33, 0x1E, 0xAA, 0x33]).map (fun d => decide (d.mode = 6 ∧ d.ns = 1 ∧ d.shape = 26 ∧ d.epraw[0] = #v[65457, 28, 65397, 0] ∧ d.ep[1] = #v[14, 65520, 6, 0] ∧ d.ix0 = #v[2, 3, 0, 5, 2, 7, 4, 1, 6, 3, 0, 5, 2, 7, 4, 1]))
      = some true
    ∧ hit .bc6hs [0x2E, 0x76, 0x0E, 0xEA, 0x72, 0x01, 0x22, 0xD3, 0xB4, 0x44, 0x3B, 0xAA, 0x33, 0x1E, 0xAA, 0x33] = [5] := by decide +kernel

/-- V430, mode 7. -/
theorem test_decode_bc6hM7 :
    decodeBlock 8 [0x12, 0x71, 0x16, 0x9E, 0x59, 0xE2, 0x8E, 0xC0, 0x59, 0xA9, 0xCD, 0x78, 0xA8, 0xCE, 0x78, 0xA8]
      = .ok (.bc6hM7 { rW := 0x88, gW := 0x2C, bW := 0xCF, rX := 0xB, gX := 0x17, bX := 0x1, rY := 0x2C, gY := 0x1, bY := 0x1E, rZ := 0x12, gZ := 0x11, bZ := 0x1, d := 0xD, idx := 0x2A1E33AA1E33 }) := by decide +kernel

/-- V430, mode 7. -/
theorem test_exec_bc6hM7 :
    (decoded .bc6hs [0x12, 0x71, 0x16, 0x9E, 0x59, 0xE2, 0x8E, 0xC0, 0x59, 0xA9, 0xCD, 0x78, 0xA8, 0xCE, 0x78, 0xA8]).map (fun d => decide (d.mode = 7 ∧ d.ns = 1 ∧ d.shape = 13 ∧ d.epraw[0] = #v[65416, 44, 65487, 0] ∧ d.ep[1] = #v[11, 65527, 1, 0] ∧ d.ix0 = #v[3, 4, 1, 6, 3, 0, 5, 2, 7, 4, 1, 6, 3, 0, 5, 2]))
      = some true
    ∧ hit .bc6hs [0x12, 0x71, 0x16, 0x9E, 0x59, 0xE2, 0x8E, 0xC0, 0x59, 0xA9, 0xCD, 0x78, 0xA8, 0xCE, 0x78, 0xA8] = [6] := by decide +kernel

/-- V430, mode 8. -/
theorem test_decode_bc6hM8 :
    decodeBlock 9 [0x36, 0xFE, 0x2B, 0x29, 0x1B, 0x6D, 0x04, 0x12, 0x66, 0x45, 0x50, 0x9D, 0xF1, 0x50, 0x9D, 0xF1]
      = .ok (.bc6hM8 { rW := 0xF1, gW := 0x57, bW := 0x94, rX := 0x3, gX := 0x23, bX := 0x4, rY := 0x13, gY := 0x16, bY := 0x10, rZ := 0xA, gZ := 0x30, bZ := 0x7, d := 0x2, idx := 0x3C67543C6754 }) := by decide +kernel

/-- V430, mode 8. -/
theorem test_exec_bc6hM8 :
    (decoded .bc6hs [0x36, 0xFE, 0x2B, 0x29, 0x1B, 0x6D, 0x04, 0x12, 0x66, 0x45, 0x50, 0x9D, 0xF1, 0x50, 0x9D, 0xF1]).map (fun d => decide (d.mode = 8 ∧ d.ns = 1 ∧ d.shape = 2 ∧ d.epraw[0] = #v[65521, 87, 65428, 0] ∧ d.ep[1] = #v[3, 65507, 4, 0] ∧ d.ix0 = #v[0, 5, 2, 7, 4, 1, 6, 3, 0, 5, 2, 7, 4, 1, 6, 3]))
      = some true
    ∧ hit .bc6hs [0x36, 0xFE, 0x2B, 0x29, 0x1B, 0x6D, 0x04, 0x12, 0x66, 0x45, 0x50, 0x9D, 0xF1, 0x50, 0x9D, 0xF1] = [7] := by decide +kernel

/-- V430, mode 9. -/
theorem test_decode_bc6hM9 :
    decodeBlock 8 [0xDA, 0xD5, 0x81, 0xF8, 0x11, 0xED, 0x0F, 0x25, 0x6E, 0xB1, 0xE6, 0xA1, 0x3A, 0xF3, 0x50, 0x9D]
      = .ok (.bc6hM9 { rW := 0xAE, gW := 0x3, bW := 0xFC, rX := 0x2, gX := 0x1F, bX := 0xA, rY := 0x17, gY := 0x6, bY := 0x31, rZ := 0x2, gZ := 0x11, bZ := 0xD, d := 0x15, idx := 0x27543CCEA879 }) := by decide +kernel

/-- V430, mode 9. -/
theorem test_exec_bc6hM9 :
    (decoded .bc6hs [0xDA, 0xD5, 0x81, 0xF8, 0x11, 0xED, 0x0F, 0x25, 0x6E, 0xB1, 0xE6, 0xA1, 0x3A, 0xF3, 0x50, 0x9D]).map (fun d => decide (d.mode = 9 ∧ d.ns = 1 ∧ d.shape = 21 ∧ d.epraw[0] = #v[65454, 3, 65532, 0] ∧ d.ep[1] = #v[2, 65535, 10, 0] ∧ d.ix0 = #v[1, 6, 3, 0, 5, 2, 7, 4, 1, 6, 3, 0, 5, 2, 7, 4]))
      = some true
    ∧ hit .bc6hs [0xDA, 0xD5, 0x81, 0xF8, 0x11, 0xED, 0x0F, 0x25, 0x6E, 0xB1, 0xE6, 0xA1, 0x3A, 0xF3, 0x50, 0x9D] = [8] := by decide +kernel

/-- V430, mode 10. -/
theorem test_decode_bc6hM10 :
    decodeBlock 9 [0xFE, 0x9D, 0x42, 0xF5, 0xDC, 0x56, 0x37, 0xA5, 0x53, 0xC3, 0x7B, 0xE2, 0xA1, 0x3A, 0xE3, 0xA1]
      = .ok (.bc6hM10 { rW := 0x2F, gW := 0x5, bW := 0x3A, rX := 0x1B, gX := 0x3A, bX := 0xA, rY := 0x29, gY := 0x1B, bY := 0x2D, rZ := 0x6, gZ := 0x36, bZ := 0x11, d := 0x1E, idx := 0x2878CEA8789E }) := by decide +kernel

/-- V430, mode 10. -/
theorem test_exec_bc6hM10 :
    (decoded .bc6hs [0xFE, 0x9D, 0x42, 0xF5, 0xDC, 0x56, 0x37, 0xA5, 0x53, 0xC3, 0x7B, 0xE2, 0xA1, 0x3A, 0xE3, 0xA1]).map (fun d => decide (d.mode = 10 ∧ d.ns = 1 ∧ d.shape = 30 ∧ d.epraw[0] = #v[65519, 5, 65530, 0] ∧ d.ep[1] = #v[27, 65530, 10, 0] ∧ d.ix0 = #v[2, 7, 0, 1, 6, 3, 0, 5, 2, 7, 4, 1, 6, 3, 0, 5]))
      = some true
    ∧ hit .bc6hs [0xFE, 0x9D, 0x42, 0xF5, 0xDC, 0x56, 0x37, 0xA5, 0x53, 0xC3, 0x7B, 0xE2, 0xA1, 0x3A, 0xE3, 0xA1] = [9] := by decide +kernel

/-- V430, mode 11. -/
theorem test_decode_bc6hM11 :
    decodeBlock 8 [0xE3, 0xEE, 0x81, 0x3E, 0x44, 0xAD, 0x56, 0xE2, 0x06, 0xA5, 0x4F, 0xE9, 0x83, 0x2D, 0xC7, 0x61]
      = .ok (.bc6hM11 { rW := 0x377, gW := 0x103, bW := 0x21F, rX := 0x1A8, gX := 0x2B5, bX := 0x1C4, idx := 0x30E396C1F4A7D283 }) := by decide +kernel

/-- V430, mode 11. -/
theorem test_exec_bc6hM11 :
    (decoded .bc6hs [0xE3, 0xEE, 0x81, 0x3E, 0x44, 0xAD, 0x56, 0xE2, 0x06, 0xA5, 0x4F, 0xE9, 0x83, 0x2D, 0xC7, 0x61]).map (fun d => decide (d.mode = 11 ∧ d.ns = 0 ∧ d.shape = 0 ∧ d.epraw[0] = #v[65399, 259, 65055, 0] ∧ d.ep[1] = #v[424, 65205, 452, 0] ∧ d.ix0 = #v[3, 0, 5, 10, 15, 4, 9, 14, 3, 8, 13, 2, 7, 12, 1, 6]))
      = some true
    ∧ hit .bc6hs [0xE3, 0xEE, 0x81, 0x3E, 0x44, 0xAD, 0x56, 0xE2, 0x06, 0xA5, 0x4F, 0xE9, 0x83, 0x2D, 0xC7, 0x61] = [10] := by decide +kernel

/-- V430, mode 12. -/
theorem test_decode_bc6hM12 :
    decodeBlock 9 [0xA7, 0x56, 0xA2, 0x50, 0x72, 0x56, 0xAD, 0x07, 0x19, 0xB6, 0x50, 0xFA, 0x94, 0x3E, 0xD8, 0x72]
      = .ok (.bc6hM12 { rW := 0x6B5, gW := 0x144, bW := 0x528, rX := 0xCE, gX := 0x16A, bX := 0xF, idx := 0x396C1F4A7D285B0C }) := by decide +kernel

/-- V430, mode 12. -/
theorem test_exec_bc6hM12 :
    (decoded .bc6hs [0xA7, 0x56, 0xA2, 0x50, 0x72, 0x56, 0xAD, 0x07, 0x19, 0xB6, 0x50, 0xFA, 0x94, 0x3E, 0xD8, 0x72]).map (fun d => decide (d.mode = 12 ∧ d.ns = 0 ∧ d.shape = 0 ∧ d.epraw[0] = #v[65205, 324, 64808, 0] ∧ d.ep[1] = #v[206, 65386, 15, 0] ∧ d.ix0 = #v[4, 1, 6, 11, 0, 5, 10, 15, 4, 9, 14, 3, 8, 13, 2, 7]))
      = some true
    ∧ hit .bc6hs [0xA7, 0x56, 0xA2, 0x50, 0x72, 0x56, 0xAD, 0x07, 0x19, 0xB6, 0x50, 0xFA, 0x94, 0x3E, 0xD8, 0x72] = [11] := by decide +kernel

/-- V430, mode 13. -/
theorem test_decode_bc6hM13 :
    decodeBlock 8 [0xCB, 0x7B, 0x0A, 0xE0, 0x35, 0x58, 0x5C, 0x87, 0x2A, 0xC7, 0x61, 0x0B, 0xA5, 0x4F, 0xE9, 0x83]
      = .ok (.bc6hM13 { rW := 0xFDE, gW := 0x414, bW := 0xAF0, rX := 0x6, gX := 0xE2, bX := 0xE, idx := 0x41F4A7D285B0E395 }) := by decide +kernel

/-- V430, mode 13. -/
theorem test_exec_bc6hM13 :
    (decoded .bc6hs [0xCB, 0x7B, 0x0A, 0xE0, 0x35, 0x58, 0x5C, 0x87, 0x2A, 0xC7, 0x61, 0x0B, 0xA5, 0x4F, 0xE9, 0x83]).map (fun d => decide (d.mode = 13 ∧ d.ns = 0 ∧ d.shape = 0 ∧ d.epraw[0] = #v[65502, 1044, 64240, 0] ∧ d.ep[1] = #v[6, 65506, 14, 0] ∧ d.ix0 = #v[5, 2, 7, 12, 1, 6, 11, 0, 5, 10, 15, 4, 9, 14, 3, 8]))
      = some true
    ∧ hit .bc6hs [0xCB, 0x7B, 0x0A, 0xE0, 0x35, 0x58, 0x5C, 0x87, 0x2A, 0xC7, 0x61, 0x0B, 0xA5, 0x4F, 0xE9, 0x83] = [12] := by decide +kernel

/-- V430, mode 14. -/
theorem test_decode_bc6hM14 :
    decodeBlock 9 [0xAF, 0x2E, 0xA0, 0x0E, 0x82, 0xC0, 0x79, 0x1B, 0x3C, 0xD8, 0x72, 0x1C, 0xB6, 0x50, 0xFA, 0x94]
      = .ok (.bc6hM14 { rW := 0x8175, gW := 0x3D40, bW := 0xC107, rX := 0x0, gX := 0xE, bX := 0x6, idx := 0x4A7D285B0E396C1E }) := by decide +kernel

/-- V430, mode 14. -/
theorem test_exec_bc6hM14 :
    (decoded .bc6hs [0xAF, 0x2E, 0xA0, 0x0E, 0x82, 0xC0, 0x79, 0x1B, 0x3C, 0xD8, 0x72, 0x1C, 0xB6, 0x50, 0xFA, 0x94]).map (fun d => decide (d.mode = 14 ∧ d.ns = 0 ∧ d.shape = 0 ∧ d.epraw[0] = #v[33141, 15680, 49415, 0] ∧ d.ep[1] = #v[0, 65534, 6, 0] ∧ d.ix0 = #v[6, 3, 8, 13, 2, 7, 12, 1, 6, 11, 0, 5, 10, 15, 4, 9]))
      = some true
    ∧ hit .bc6hs [0xAF, 0x2E, 0xA0, 0x0E, 0x82, 0xC0, 0x79, 0x1B, 0x3C, 0xD8, 0x72, 0x1C, 0xB6, 0x50, 0xFA, 0x94] = [13] := by decide +kernel

/-- V432. -/
theorem test_decode_bc6hRsvd13 :
    decodeBlock 8 [0xF3, 0xFF, 0xFF, 0xFF, 0xFF, 0xFF, 0xFF, 0xFF, 0xFF, 0xFF, 0xFF, 0xFF, 0xFF, 0xFF, 0xFF, 0xFF]
      = .ok (.bc6hRsvd13 0x7FFFFFFFFFFFFFFFFFFFFFFFFFFFFFF) := by decide +kernel

/-- V432. -/
theorem test_exec_bc6hRsvd13 :
    raised .bc6hs [0xF3, 0xFF, 0xFF, 0xFF, 0xFF, 0xFF, 0xFF, 0xFF, 0xFF, 0xFF, 0xFF, 0xFF, 0xFF, 0xFF, 0xFF, 0xFF] = some (.reservedModeEncountered, 0x13, false)
    ∧ hit .bc6hu [0xF3, 0xFF, 0xFF, 0xFF, 0xFF, 0xFF, 0xFF, 0xFF, 0xFF, 0xFF, 0xFF, 0xFF, 0xFF, 0xFF, 0xFF, 0xFF] = [14] := by decide +kernel

/-- V432. -/
theorem test_decode_bc6hRsvd17 :
    decodeBlock 8 [0xF7, 0xFF, 0xFF, 0xFF, 0xFF, 0xFF, 0xFF, 0xFF, 0xFF, 0xFF, 0xFF, 0xFF, 0xFF, 0xFF, 0xFF, 0xFF]
      = .ok (.bc6hRsvd17 0x7FFFFFFFFFFFFFFFFFFFFFFFFFFFFFF) := by decide +kernel

/-- V432. -/
theorem test_exec_bc6hRsvd17 :
    raised .bc6hs [0xF7, 0xFF, 0xFF, 0xFF, 0xFF, 0xFF, 0xFF, 0xFF, 0xFF, 0xFF, 0xFF, 0xFF, 0xFF, 0xFF, 0xFF, 0xFF] = some (.reservedModeEncountered, 0x17, false)
    ∧ hit .bc6hu [0xF7, 0xFF, 0xFF, 0xFF, 0xFF, 0xFF, 0xFF, 0xFF, 0xFF, 0xFF, 0xFF, 0xFF, 0xFF, 0xFF, 0xFF, 0xFF] = [14] := by decide +kernel

/-- V432. -/
theorem test_decode_bc6hRsvd1B :
    decodeBlock 8 [0xFB, 0xFF, 0xFF, 0xFF, 0xFF, 0xFF, 0xFF, 0xFF, 0xFF, 0xFF, 0xFF, 0xFF, 0xFF, 0xFF, 0xFF, 0xFF]
      = .ok (.bc6hRsvd1B 0x7FFFFFFFFFFFFFFFFFFFFFFFFFFFFFF) := by decide +kernel

/-- V432. -/
theorem test_exec_bc6hRsvd1B :
    raised .bc6hs [0xFB, 0xFF, 0xFF, 0xFF, 0xFF, 0xFF, 0xFF, 0xFF, 0xFF, 0xFF, 0xFF, 0xFF, 0xFF, 0xFF, 0xFF, 0xFF] = some (.reservedModeEncountered, 0x1B, false)
    ∧ hit .bc6hu [0xFB, 0xFF, 0xFF, 0xFF, 0xFF, 0xFF, 0xFF, 0xFF, 0xFF, 0xFF, 0xFF, 0xFF, 0xFF, 0xFF, 0xFF, 0xFF] = [14] := by decide +kernel

/-- V432. -/
theorem test_decode_bc6hRsvd1F :
    decodeBlock 8 [0xFF, 0xFF, 0xFF, 0xFF, 0xFF, 0xFF, 0xFF, 0xFF, 0xFF, 0xFF, 0xFF, 0xFF, 0xFF, 0xFF, 0xFF, 0xFF]
      = .ok (.bc6hRsvd1F 0x7FFFFFFFFFFFFFFFFFFFFFFFFFFFFFF) := by decide +kernel

/-- V432. -/
theorem test_exec_bc6hRsvd1F :
    raised .bc6hs [0xFF, 0xFF, 0xFF, 0xFF, 0xFF, 0xFF, 0xFF, 0xFF, 0xFF, 0xFF, 0xFF, 0xFF, 0xFF, 0xFF, 0xFF, 0xFF] = some (.reservedModeEncountered, 0x1F, false)
    ∧ hit .bc6hu [0xFF, 0xFF, 0xFF, 0xFF, 0xFF, 0xFF, 0xFF, 0xFF, 0xFF, 0xFF, 0xFF, 0xFF, 0xFF, 0xFF, 0xFF, 0xFF] = [14] := by decide +kernel

/-- V440, mode 0. -/
theorem test_decode_bc7M0 :
    decodeBlock 10 [0xCB, 0x91, 0x15, 0x3C, 0xCA, 0xD6, 0xEC, 0x89, 0x1A, 0xA4, 0x60, 0x8E, 0x57, 0x31, 0x87, 0x57]
      = .ok (.bc7M0 { part := 5, rot := 0, isel := 0, r := #v[14, 8, 12, 10, 0, 14], g := #v[1, 5, 6, 11, 6, 6], b := #v[15, 4, 4, 13, 0, 2], a := Vector.replicate 6 0, p := #v[1, 0, 1, 0, 0, 0], idx := 0xAF0E62AF1CC, idx2 := 0x0 }) := by decide +kernel

/-- V440, mode 0. -/
theorem test_exec_bc7M0 :
    (decoded .bc7 [0xCB, 0x91, 0x15, 0x3C, 0xCA, 0xD6, 0xEC, 0x89, 0x1A, 0xA4, 0x60, 0x8E, 0x57, 0x31, 0x87, 0x57]).map (fun d => decide (d.mode = 0 ∧ d.ns = 2 ∧ d.shape = 5 ∧ d.rot = 0 ∧ d.isel = 0 ∧ d.epraw[5] = #v[14, 6, 2, 0] ∧ d.ep[5] = #v[28, 12, 4, 0] ∧ d.ix0 = #v[0, 3, 6, 1, 4, 7, 2, 5, 0, 3, 6, 1, 4, 7, 2, 1] ∧ d.ix1 = #v[0, 0, 0, 0, 0, 0, 0, 0, 0, 0, 0, 0, 0, 0, 0, 0]))
      = some true
    ∧ hit .bc7 [0xCB, 0x91, 0x15, 0x3C, 0xCA, 0xD6, 0xEC, 0x89, 0x1A, 0xA4, 0x60, 0x8E, 0x57, 0x31, 0x87, 0x57] = [0] := by decide +kernel

/-- V440, mode 1. -/
theorem test_decode_bc7M1 :
    decodeBlock 10 [0x96, 0xC2, 0x72, 0x4C, 0x6E, 0x01, 0x22, 0x46, 0xB5, 0xDF, 0xC5, 0xAB, 0x98, 0xE3, 0x55, 0xCC]
      = .ok (.bc7M1 { part := 37, rot := 0, isel := 0, r := #v[2, 11, 7, 19], g := #v[46, 5, 32, 8], b := #v[6, 21, 59, 55], a := Vector.replicate 4 0, p := #v[1, 0], idx := 0x331578E62AF1, idx2 := 0x0 }) := by decide +kernel

/-- V440, mode 1. -/
theorem test_exec_bc7M1 :
    (decoded .bc7 [0x96, 0xC2, 0x72, 0x4C, 0x6E, 0x01, 0x22, 0x46, 0xB5, 0xDF, 0xC5, 0xAB, 0x98, 0xE3, 0x55, 0xCC]).map (fun d => decide (d.mode = 1 ∧ d.ns = 1 ∧ d.shape = 37 ∧ d.rot = 0 ∧ d.isel = 0 ∧ d.epraw[3] = #v[19, 8, 55, 0] ∧ d.ep[3] = #v[38, 16, 110, 0] ∧ d.ix0 = #v[1, 4, 7, 2, 5, 0, 3, 6, 1, 4, 7, 2, 5, 0, 3, 6] ∧ d.ix1 = #v[0, 0, 0, 0, 0, 0, 0, 0, 0, 0, 0, 0, 0, 0, 0, 0]))
      = some true
    ∧ hit .bc7 [0x96, 0xC2, 0x72, 0x4C, 0x6E, 0x01, 0x22, 0x46, 0xB5, 0xDF, 0xC5, 0xAB, 0x98, 0xE3, 0x55, 0xCC] = [1] := by decide +kernel

/-- V440, mode 2. -/
theorem test_decode_bc7M2 :
    decodeBlock 10 [0xD4, 0x00, 0x3C, 0xE4, 0x7A, 0x2A, 0xE3, 0xB0, 0xE0, 0x80, 0x59, 0xC3, 0x12, 0x9B, 0xC5, 0xC6]
      = .ok (.bc7M2 { part := 26, rot := 0, isel := 0, r := #v[0, 16, 7, 4, 23, 30], g := #v[20, 18, 17, 3, 22, 0], b := #v[7, 0, 19, 21, 1, 11], a := Vector.replicate 6 0, p := #v[], idx := 0x18D8B362, idx2 := 0x0 }) := by decide +kernel

/-- V440, mode 2. -/
theorem test_exec_bc7M2 :
    (decoded .bc7 [0xD4, 0x00, 0x3C, 0xE4, 0x7A, 0x2A, 0xE3, 0xB0, 0xE0, 0x80, 0x59, 0xC3, 0x12, 0x9B, 0xC5, 0xC6]).map (fun d => decide (d.mode = 2 ∧ d.ns = 2 ∧ d.shape = 26 ∧ d.rot = 0 ∧ d.isel = 0 ∧ d.epraw[5] = #v[30, 0, 11, 0] ∧ d.ep[5] = #v[30, 0, 11, 0] ∧ d.ix0 = #v[0, 1, 0, 3, 2, 1, 0, 3, 0, 1, 0, 3, 2, 1, 0, 3] ∧ d.ix1 = #v[0, 0, 0, 0, 0, 0, 0, 0, 0, 0, 0, 0, 0, 0, 0, 0]))
      = some true
    ∧ hit .bc7 [0xD4, 0x00, 0x3C, 0xE4, 0x7A, 0x2A, 0xE3, 0xB0, 0xE0, 0x80, 0x59, 0xC3, 0x12, 0x9B, 0xC5, 0xC6] = [2] := by decide +kernel

/-- V440, mode 3. -/
theorem test_decode_bc7M3 :
    decodeBlock 10 [0x18, 0x71, 0x9C, 0xAA, 0x08, 0xCE, 0x6C, 0xA5, 0x22, 0x33, 0x4A, 0x71, 0x37, 0x1B, 0x1B, 0x1B]
      = .ok (.bc7M3 { part := 17, rot := 0, isel := 0, r := #v[28, 78, 42, 17], g := #v[56, 102, 86, 84], b := #v[72, 25, 74, 98], a := Vector.replicate 4 0, p := #v[1, 0, 1, 1], idx := 0x6C6C6CD, idx2 := 0x0 }) := by decide +kernel

/-- V440, mode 3. -/
theorem test_exec_bc7M3 :
    (decoded .bc7 [0x18, 0x71, 0x9C, 0xAA, 0x08, 0xCE, 0x6C, 0xA5, 0x22, 0x33, 0x4A, 0x71, 0x37, 0x1B, 0x1B, 0x1B]).map (fun d => decide (d.mode = 3 ∧ d.ns = 1 ∧ d.shape = 17 ∧ d.rot = 0 ∧ d.isel = 0 ∧ d.epraw[3] = #v[17, 84, 98, 0] ∧ d.ep[3] = #v[35, 169, 197, 0] ∧ d.ix0 = #v[1, 2, 1, 0, 3, 2, 1, 0, 3, 2, 1, 0, 3, 2, 1, 0] ∧ d.ix1 = #v[0, 0, 0, 0, 0, 0, 0, 0, 0, 0, 0, 0, 0, 0, 0, 0]))
      = some true
    ∧ hit .bc7 [0x18, 0x71, 0x9C, 0xAA, 0x08, 0xCE, 0x6C, 0xA5, 0x22, 0x33, 0x4A, 0x71, 0x37, 0x1B, 0x1B, 0x1B] = [3] := by decide +kernel

/-- V440, mode 4. -/
theorem test_decode_bc7M4 :
    decodeBlock 10 [0xD0, 0x20, 0x35, 0x7E, 0x55, 0x13, 0xD9, 0xD8, 0xD8, 0xD8, 0xC2, 0x5D, 0x4E, 0xC1, 0x5D, 0x4E]
      = .ok (.bc7M4 { part := 0, rot := 2, isel := 1, r := #v[0, 9], g := #v[13, 28], b := #v[23, 10], a := #v[13, 17], p := #v[], idx := 0x36363636, idx2 := 0x272EE0A72EE1 }) := by decide +kernel

/-- V440, mode 4. -/
theorem test_exec_bc7M4 :
    (decoded .bc7 [0xD0, 0x20, 0x35, 0x7E, 0x55, 0x13, 0xD9, 0xD8, 0xD8, 0xD8, 0xC2, 0x5D, 0x4E, 0xC1, 0x5D, 0x4E]).map (fun d => decide (d.mode = 4 ∧ d.ns = 0 ∧ d.shape = 0 ∧ d.rot = 2 ∧ d.isel = 1 ∧ d.epraw[1] = #v[9, 28, 10, 17] ∧ d.ep[1] = #v[9, 28, 10, 17] ∧ d.ix0 = #v[0, 3, 2, 1, 0, 3, 2, 1, 0, 3, 2, 1, 0, 3, 2, 1] ∧ d.ix1 = #v[1, 0, 7, 6, 5, 4, 3, 2, 1, 0, 7, 6, 5, 4, 3, 2]))
      = some true
    ∧ hit .bc7 [0xD0, 0x20, 0x35, 0x7E, 0x55, 0x13, 0xD9, 0xD8, 0xD8, 0xD8, 0xC2, 0x5D, 0x4E, 0xC1, 0x5D, 0x4E] = [4] := by decide +kernel

/-- V440, mode 5. -/
theorem test_decode_bc7M5 :
    decodeBlock 10 [0x60, 0xF3, 0xDA, 0xC0, 0x3E, 0x71, 0xE7, 0xC7, 0x64, 0x63, 0x63, 0x63, 0xB3, 0xB1, 0xB1, 0xB1]
      = .ok (.bc7M5 { part := 0, rot := 1, isel := 0, r := #v[115, 53], g := #v[3, 118], b := #v[19, 110], a := #v[249, 49], p := #v[], idx := 0x58D8D8D9, idx2 := 0x58D8D8D9 }) := by decide +kernel

/-- V440, mode 5. -/
theorem test_exec_bc7M5 :
    (decoded .bc7 [0x60, 0xF3, 0xDA, 0xC0, 0x3E, 0x71, 0xE7, 0xC7, 0x64, 0x63, 0x63, 0x63, 0xB3, 0xB1, 0xB1, 0xB1]).map (fun d => decide (d.mode = 5 ∧ d.ns = 0 ∧ d.shape = 0 ∧ d.rot = 1 ∧ d.isel = 0 ∧ d.epraw[1] = #v[53, 118, 110, 49] ∧ d.ep[1] = #v[53, 118, 110, 49] ∧ d.ix0 = #v[1, 0, 3, 2, 1, 0, 3, 2, 1, 0, 3, 2, 1, 0, 3, 2] ∧ d.ix1 = #v[1, 0, 3, 2, 1, 0, 3, 2, 1, 0, 3, 2, 1, 0, 3, 2]))
      = some true
    ∧ hit .bc7 [0x60, 0xF3, 0xDA, 0xC0, 0x3E, 0x71, 0xE7, 0xC7, 0x64, 0x63, 0x63, 0x63, 0xB3, 0xB1, 0xB1, 0xB1] = [5] := by decide +kernel

/-- V440, mode 6. -/
theorem test_decode_bc7M6 :
    decodeBlock 10 [0x40, 0x72, 0x44, 0xF2, 0x6B, 0xD8, 0xA4, 0xF1, 0x9C, 0xFC, 0x52, 0xB8, 0x1E, 0x74, 0xDA, 0x30]
      = .ok (.bc7M6 { part := 0, rot := 0, isel := 0, r := #v[100, 17], g := #v[18, 63], b := #v[13, 54], a := #v[82, 113], p := #v[1, 0], idx := 0x186D3A0F5C297E4E, idx2 := 0x0 }) := by decide +kernel

/-- V440, mode 6. -/
theorem test_exec_bc7M6 :
    (decoded .bc7 [0x40, 0x72, 0x44, 0xF2, 0x6B, 0xD8, 0xA4, 0xF1, 0x9C, 0xFC, 0x52, 0xB8, 0x1E, 0x74, 0xDA, 0x30]).map (fun d => decide (d.mode = 6 ∧ d.ns = 0 ∧ d.shape = 0 ∧ d.rot = 0 ∧ d.isel = 0 ∧ d.epraw[1] = #v[17, 63, 54, 113] ∧ d.ep[1] = #v[34, 126, 108, 226] ∧ d.ix0 = #v[6, 9, 12, 15, 2, 5, 8, 11, 14, 1, 4, 7, 10, 13, 0, 3] ∧ d.ix1 = #v[0, 0, 0, 0, 0, 0, 0, 0, 0, 0, 0, 0, 0, 0, 0, 0]))
      = some true
    ∧ hit .bc7 [0x40, 0x72, 0x44, 0xF2, 0x6B, 0xD8, 0xA4, 0xF1, 0x9C, 0xFC, 0x52, 0xB8, 0x1E, 0x74, 0xDA, 0x30] = [6] := by decide +kernel

/-- V440, mode 7. -/
theorem test_decode_bc7M7 :
    decodeBlock 10 [0x80, 0x3B, 0x53, 0x1E, 0x90, 0xB5, 0x89, 0x26, 0x32, 0xDA, 0x31, 0x6B, 0x35, 0x36, 0x36, 0x36]
      = .ok (.bc7M7 { part := 59, rot := 0, isel := 0, r := #v[12, 10, 30, 0], g := #v[4, 11, 27, 4], b := #v[26, 4, 18, 17], a := #v[22, 3, 19, 21], p := #v[1, 0, 1, 0], idx := 0xD8D8D8D, idx2 := 0x0 }) := by decide +kernel

/-- V440, mode 7. -/
theorem test_exec_bc7M7 :
    (decoded .bc7 [0x80, 0x3B, 0x53, 0x1E, 0x90, 0xB5, 0x89, 0x26, 0x32, 0xDA, 0x31, 0x6B, 0x35, 0x36, 0x36, 0x36]).map (fun d => decide (d.mode = 7 ∧ d.ns = 1 ∧ d.shape = 59 ∧ d.rot = 0 ∧ d.isel = 0 ∧ d.epraw[3] = #v[0, 4, 17, 21] ∧ d.ep[3] = #v[0, 8, 34, 42] ∧ d.ix0 = #v[1, 2, 1, 0, 3, 2, 1, 0, 3, 2, 1, 0, 3, 2, 1, 0] ∧ d.ix1 = #v[0, 0, 0, 0, 0, 0, 0, 0, 0, 0, 0, 0, 0, 0, 0, 0]))
      = some true
    ∧ hit .bc7 [0x80, 0x3B, 0x53, 0x1E, 0x90, 0xB5, 0x89, 0x26, 0x32, 0xDA, 0x31, 0x6B, 0x35, 0x36, 0x36, 0x36] = [7] := by decide +kernel

/-- V442. -/
theorem test_decode_bc7Rsvd :
    decodeBlock 10 [0x00, 0xFF, 0xFF, 0xFF, 0xFF, 0xFF, 0xFF, 0xFF, 0xFF, 0xFF, 0xFF, 0xFF, 0xFF, 0xFF, 0xFF, 0xFF]
      = .ok (.bc7Rsvd 0xFFFFFFFFFFFFFFFFFFFFFFFFFFFFFF) := by decide +kernel

/-- V442. -/
theorem test_exec_bc7Rsvd :
    raised .bc7 [0x00, 0xFF, 0xFF, 0xFF, 0xFF, 0xFF, 0xFF, 0xFF, 0xFF, 0xFF, 0xFF, 0xFF, 0xFF, 0xFF, 0xFF, 0xFF] = some (.reservedModeEncountered, 0, false)
    ∧ hit .bc7 [0x00, 0xFF, 0xFF, 0xFF, 0xFF, 0xFF, 0xFF, 0xFF, 0xFF, 0xFF, 0xFF, 0xFF, 0xFF, 0xFF, 0xFF, 0xFF] = [8] := by decide +kernel

/-- 30_encoding.md rule R110; bits 7:4 of the value written are ignored. -/
theorem test_decode_classify :
    decodeInstr .command [1] = .ok .classify ∧ decodeInstr .command [0xA1] = .ok .classify := by decide +kernel

/-- 30_encoding.md rule R110; bits 7:4 of the value written are ignored. -/
theorem test_decode_decode :
    decodeInstr .command [2] = .ok .decode ∧ decodeInstr .command [0xA2] = .ok .decode := by decide +kernel

/-- 30_encoding.md rule R110; bits 7:4 of the value written are ignored. -/
theorem test_decode_stats :
    decodeInstr .command [3] = .ok .stats ∧ decodeInstr .command [0xA3] = .ok .stats := by decide +kernel

/-- 30_encoding.md rule R110; bits 7:4 of the value written are ignored. -/
theorem test_decode_extract :
    decodeInstr .command [4] = .ok .extract ∧ decodeInstr .command [0xA4] = .ok .extract := by decide +kernel

/-- 30_encoding.md rule R110; bits 7:4 of the value written are ignored. -/
theorem test_decode_sext :
    decodeInstr .command [5] = .ok .sext ∧ decodeInstr .command [0xA5] = .ok .sext := by decide +kernel

/-- 30_encoding.md rule R110; bits 7:4 of the value written are ignored. -/
theorem test_decode_fixup :
    decodeInstr .command [6] = .ok .fixup ∧ decodeInstr .command [0xA6] = .ok .fixup := by decide +kernel

/-- 30_encoding.md rule R110; bits 7:4 of the value written are ignored. -/
theorem test_decode_isfix :
    decodeInstr .command [7] = .ok .isfix ∧ decodeInstr .command [0xA7] = .ok .isfix := by decide +kernel

/-- 46_commands.md rule R318. -/
theorem test_decode_cmdIllegal0 :
    decodeInstr .command [0xF0] = .ok .cmdIllegal0 := by decide +kernel

/-- 46_commands.md rule R318: the first and the last of the codes. -/
theorem test_decode_cmdIllegal8to15 :
    decodeInstr .command [8] = .ok (.cmdIllegal8to15 8) ∧ decodeInstr .command [0x0F] = .ok (.cmdIllegal8to15 15) := by decide +kernel

/-- R251, R252 and R266 of 44_classifier.md: a 3 by 3 image has no block, so the pass ends at once (V470). -/
theorem test_exec_classify_empty :
    ((after .classify { CtrlRegs.zero with fmt := 2, width := 3, height := 3, base := 0x7000 }).bind stepped).map
      (fun s => (s.status.toWord, s.total, s.hs.bY, s.hs.bX)) = some (0x102, 0, 0, 0) := by decide +kernel

/-- V470: UnsupportedFormat with the tag in EINFO. -/
theorem test_exec_classify_unsupported :
    (after .classify { CtrlRegs.zero with fmt := 15, base := 0x7000 }).map (fun s => (s.status.toWord, s.einfo)) = some (0x012, 15) := by
  decide +kernel

/-- V470: BX is checked before BY. -/
theorem test_exec_decode_bounds :
    (after .decode { CtrlRegs.zero with fmt := 3, width := 16, height := 4, pitch := 64, base := 0x7000, bX := 4, bY := 1 }).map
      (fun s => (s.status.toWord, s.einfo)) = some (0x062, 5) := by decide +kernel

/-- R313 of 46_commands.md: the fetch of a block in bounds is outstanding. -/
theorem test_exec_decode_starts :
    (after .decode { CtrlRegs.zero with fmt := 3, width := 16, height := 4, pitch := 64, base := 0x7000, bX := 3 }).map
      (fun s => (s.status.phase, s.status.err, s.hs.cmd)) = some (.run, .none, 2) := by decide +kernel

/-- V470: NullBuffer before EmptyInput; R283 of 45_statistics.md: the start values. -/
theorem test_exec_stats :
    (after .stats CtrlRegs.zero).map (fun s => s.status.toWord) = some 0x052
    ∧ (after .stats { CtrlRegs.zero with height := 9, base := 0x7000 }).map (fun s => s.status.toWord) = some 0x042
    ∧ (after .stats { CtrlRegs.zero with width := 3, height := 2, base := 0x7000 }).map
      (fun s => (s.st.min[0], s.st.max[3], s.st.npix, s.hs.step)) = some (0x7F7FFFFF, 0xFF7FFFFF, 6, .pass1) := by
  decide +kernel

/-- R297 of 45_statistics.md: the step of the last pixel of pass 1, at row 1, column 1, from the sums after pixel 2; the
finish from the sums of pass 2 under `VAR_DIV` = N and N-1, with R289's own case 1. -/
theorem test_stats_pixels :
    (stepped r297).map (fun s => (s.st.avg, s.st.min, s.hs.step))
      = some (#v[0x3F666666, 0x3F8E6666, 0x3F89999A, 0x3FE00000], #v[0x3DCCCCCD, 0x3E4CCCCD, 0xBF800000, 0x00000000], .pass2)
    ∧ (finished .n).var = #v[0x3F0147AE, 0x3F49B851, 0x40177AE1, 0x400C0000]
    ∧ (finished .n).sd = #v[0x3F35EC14, 0x3F633EBC, 0x3FC4EC6D, 0x3FBD5087]
    ∧ (finished .nMinusOne).var = #v[0x3F2C5F93, 0x3F867AE1, 0x4049F92C, 0x403AAAAB]
    ∧ (finished .nMinusOne).sd = #v[0x3F5210CE, 0x3F833333, 0x3FE36341, 0x3FDA9A04]
    ∧ (finished .one).var = #v[0x400147AE, 0x4049B851, 0x41177AE1, 0x410C0000] := by
  decide +kernel

/-- V410, the 64-bit block at column 1: `extract(19, 3)` and `extract(56, 8)`. -/
theorem test_exec_extract :
    (extracted 19 3, extracted 56 8) = (some (0x802, 0x1), some (0x802, 0xFA)) := by decide +kernel

/-- V470: a zero width at offset 64 is legal, a field past the block is not. -/
theorem test_exec_extract_edge : (extracted 64 0, (extracted 60 8).map (·.1)) = (some (0x802, 0), some 0x062) := by decide +kernel

/-- V470. -/
theorem test_exec_sext :
    (after .sext { CtrlRegs.zero with op0 := 8, op1 := 0x81 }).map (fun s => (s.status.toWord, s.xres))
      = some (0x802, 0xFFFFFFFFFFFFFF81) := by decide +kernel

/-- V470. -/
theorem test_exec_sext_range :
    (after .sext { CtrlRegs.zero with op0 := 4, op1 := 16 }).map (fun s => (s.status.toWord, s.einfo)) = some (0x062, 8) := by
  decide +kernel

/-- V470. -/
theorem test_exec_fixup :
    (after .fixup { CtrlRegs.zero with op0 := 2, op1 := 59, op2 := 1 }).map (fun s => (s.status.toWord, s.xres)) = some (0x802, 13) := by
  decide +kernel

/-- V470: the column q > p is legal and 0; a shape of 64 is not. -/
theorem test_exec_fixup_edge :
    (after .fixup { CtrlRegs.zero with op0 := 1, op1 := 5, op2 := 2 }).map (fun s => (s.status.toWord, s.xres)) = some (0x802, 0)
    ∧ (after .fixup { CtrlRegs.zero with op0 := 2, op1 := 64 }).map (fun s => (s.status.toWord, s.einfo)) = some (0x062, 8) := by
  decide +kernel

/-- V470. -/
theorem test_exec_isfix :
    (after .isfix { CtrlRegs.zero with op0 := 2, op1 := 26, op2 := 6 }).map (fun s => (s.status.toWord, s.xres)) = some (0x802, 1) := by
  decide +kernel

/-- V413 and V470: `isfix(1, 17, 15) = 0`; a pixel of 16 is illegal. -/
theorem test_exec_isfix_edge :
    (after .isfix { CtrlRegs.zero with op0 := 1, op1 := 17, op2 := 15 }).map (fun s => (s.status.toWord, s.xres)) = some (0x802, 0)
    ∧ (after .isfix { CtrlRegs.zero with op0 := 1, op2 := 16 }).map (fun s => (s.status.toWord, s.einfo)) = some (0x062, 9) := by
  decide +kernel

/-- V470. -/
theorem test_exec_cmdIllegal0 :
    (after .cmdIllegal0 CtrlRegs.zero).map (fun s => (s.status.toWord, s.einfo)) = some (0x062, 10) := by decide +kernel

/-- V470. -/
theorem test_exec_cmdIllegal8to15 :
    (after (.cmdIllegal8to15 15) CtrlRegs.zero).map (fun s => (s.status.toWord, s.einfo)) = some (0x062, 3850) := by
  decide +kernel

/-- Where the table's words come from (log entry 11), and that a placed word runs. -/
theorem test_decodeTableWord :
    decodeTableWord 8 9 = some (.cmdIllegal8to15 9) ∧ decodeTableWord 64 0xE4E4E4E4001FF800 = some (.bc1 0xF800 0x001F 0xE4E4E4E4)
    ∧ decodeTableWord 8 0x80 = decodeTableWord 128 0x80 := by decide +kernel

/-- The step after `withFetchWord` delivers the placed BC1 block. -/
theorem test_withFetchWord :
    (stepped (State.reset.withFetchWord 64 0xE4E4E4E4001FF800)).map (fun s => (s.status.toWord, s.dr.c565))
      = some (0x402, #v[0xF800, 0x001F]) := by decide +kernel

/-- R370 of 70_reset_and_hazards.md: a reset in the middle of a pass. -/
theorem test_reset_in_run :
    (stepped { running 1 .bc1 (List.replicate 8 0) with inbox := [.reset 0], total := 5 }).map
      (fun s => (s.status.toWord, s.hs.cmd, s.cr.base, s.mem.length)) = some (0, 0, 0, 8) := by decide +kernel

/-- R266 of 44_classifier.md: (RUN, DISPATCH), (RUN, ACCUM), (RUN, DISPATCH), TERMINAL, and what each step has done. -/
theorem test_pass_states :
    (stepped (running 1 .bc1 (List.replicate 8 0))).map (fun s => (s.status.phase, s.hs.step, s.total, s.buckets))
      = some (.run, .accum, 0, [1])
    ∧ ((stepped (running 1 .bc1 (List.replicate 8 0))).bind stepped).map
        (fun s => decide (s.status.phase = .run ∧ s.hs.step = .dispatch ∧ s.total = 1 ∧ s.hist[1] = 1 ∧ s.exhausted = true))
      = some true
    ∧ (((stepped (running 1 .bc1 (List.replicate 8 0))).bind stepped).bind stepped).map
        (fun s => (s.status.toWord, s.hs.step, s.total)) = some (0x102, .dispatch, 1) := by decide +kernel

/-! ## Numerics: rules R281 and R296 to R298 of 45_statistics.md -/

/-- 1.5 + 2^-24 ties to even; the largest finite value doubled is infinity; 1/3; the root of 2; a subnormal is kept. -/
theorem test_numerics :
    fadd 0x3FC00000 0x33800000 = 0x3FC00000 ∧ fadd 0x7F7FFFFF 0x7F7FFFFF = 0x7F800000
    ∧ fdiv 0x3F800000 0x40400000 = 0x3EAAAAAB ∧ fsqrt 0x40000000 = 0x3FB504F3 ∧ fmul 0x00000001 0x3F800000 = 0x00000001
    ∧ fsub 0x40400000 0x40A00000 = 0xC0000000 := by decide +kernel

/-! ## Witnesses: states that meet the hypotheses of the obligations -/

/-- The BC1 block of V420, row 1. -/
def bc1Bytes : List Byte := [0x00, 0xF8, 0x1F, 0x00, 0xE4, 0xE4, 0xE4, 0xE4]

/-- An idle machine with descriptor `cr`. -/
def idle (cr : CtrlRegs) : State := { State.reset with cr := cr }

/-- A CLASSIFY pass over 2 by 2 BC1 blocks, at the cursor given. -/
def passAt (bY bX : Word64) : State :=
  { running 1 .bc1 bc1Bytes with
    cr := { descr .bc1 with width := 8, height := 8, pitch := 16 }
    hs := { State.reset.hs with cmd := 1, bY := bY, bX := bX } }

/-- A STATS at the start of pass 1 over 2 pixels. -/
def pixels : State :=
  { running 3 .bc1 [] with
    cr := { CtrlRegs.zero with width := 2, height := 1, base := 0x1000 }
    st := StatRegs.start 2, hs := { State.reset.hs with cmd := 3, step := .pass1 } }

theorem idle_ready (cr : CtrlRegs) : Ready (idle cr) := by simp [Ready, idle, State.reset]

theorem idle_noResetNext (cr : CtrlRegs) : noResetNext (idle cr) := by simp [noResetNext, idle, State.reset]

theorem decoding_bc1 : Decoding (running 2 .bc1 bc1Bytes) := And.intro rfl rfl

theorem passAt_dispatching (bY bX : Word64) : Dispatching (passAt bY bX) := ⟨And.intro rfl rfl, rfl, rfl⟩

/-- The same pass at ACCUM, with the block's bucket on the list. -/
def accumAt (bY bX : Word64) : State :=
  { passAt bY bX with buckets := [0], hs := { (passAt bY bX).hs with step := .accum } }

theorem accumAt_accumulating (bY bX : Word64) : Accumulating (accumAt bY bX) := ⟨And.intro rfl rfl, rfl⟩

/-- The same pass after its last block. -/
def passDone : State := { passAt 1 1 with exhausted := true }

theorem passDone_exhausted : PassExhausted passDone := ⟨And.intro rfl rfl, rfl, rfl⟩

theorem pixels_reducing : Reducing pixels := And.intro rfl rfl

theorem passAt_inv : Inv (passAt 0 0) where
  memWf := by decide +kernel
  runCmd := fun _ => .inl rfl
  runClean := fun _ => by decide +kernel
  classifying := fun _ => by decide +kernel
  inWalk := fun _ _ => by decide +kernel
  pastWalk := fun h => absurd h (by decide)
  listed := fun h => absurd rfl h
  decoding := fun h => absurd h.2 (by decide)
  reducing := fun h => absurd h.2 (by decide)
  fresh := fun h => absurd h (by decide)

theorem accumAt_inv : Inv (accumAt 0 0) where
  memWf := by decide +kernel
  runCmd := fun _ => .inl rfl
  runClean := fun _ => by decide +kernel
  classifying := fun _ => by decide +kernel
  inWalk := fun _ _ => by decide +kernel
  pastWalk := fun h => absurd h (by decide)
  listed := fun _ => accumAt_accumulating 0 0
  decoding := fun h => absurd h.2 (by decide)
  reducing := fun h => absurd h.2 (by decide)
  fresh := fun h => absurd h (by decide)

theorem passDone_inv : Inv passDone where
  memWf := by decide +kernel
  runCmd := fun _ => .inl rfl
  runClean := fun _ => by decide +kernel
  classifying := fun _ => by decide +kernel
  inWalk := fun _ h => absurd h (by decide)
  pastWalk := fun _ => passDone_exhausted
  listed := fun h => absurd rfl h
  decoding := fun h => absurd h.2 (by decide)
  reducing := fun h => absurd h.2 (by decide)
  fresh := fun h => absurd h (by decide)

theorem reset_inv (ib : List HostOp) : Inv { State.reset with inbox := ib } where
  memWf := rfl
  runCmd := fun h => absurd h (show Phase.none ≠ .run by decide)
  runClean := fun h => absurd h (show Phase.none ≠ .run by decide)
  classifying := fun h => absurd h.1 (show Phase.none ≠ .run by decide)
  inWalk := fun h => absurd h.1 (show Phase.none ≠ .run by decide)
  pastWalk := fun h => absurd h (show false ≠ true by decide)
  listed := fun h => absurd rfl h
  decoding := fun h => absurd h.1 (show Phase.none ≠ .run by decide)
  reducing := fun h => absurd h.1 (show Phase.none ≠ .run by decide)
  fresh := fun _ => ⟨rfl, rfl, rfl, rfl, rfl, rfl⟩

theorem witness_ResetApplied : { passAt 0 1 with inbox := [.reset 0] }.inbox = .reset 0 :: [] := rfl

theorem witness_IdleKeepsState : Ready State.reset ∧ State.reset.crCmd = none ∧ State.reset.inbox = [] :=
  ⟨idle_ready CtrlRegs.zero, rfl, rfl⟩

theorem witness_StepRunsCommand :
    ¬ resetNow { idle CtrlRegs.zero with crCmd := some 5 } ∧ Ready { idle CtrlRegs.zero with crCmd := some 5 }
    ∧ decodeInstr .command [(5 : Nibble).setWidth 8] = .ok .sext :=
  ⟨by simp [resetNow, idle, State.reset], by simp [Ready, idle, State.reset], by decide +kernel⟩

/-- A block of a pass and the block of a DECODE. -/
theorem witness_StepRunsBlock :
    ¬ resetNow (passAt 0 0) ∧ Dispatching (passAt 0 0) ∧ nblk? (passAt 0 0).cr = some 8 ∧ noResetNext (passAt 0 0)
    ∧ decodeInstr (.block (passAt 0 0).cr.fmt) (memBytes (passAt 0 0).mem (blockAddr (passAt 0 0).cr 8 0 0) 8)
      = .ok (.bc1 0xF800 0x001F 0xE4E4E4E4)
    ∧ Decoding (running 2 .bc1 bc1Bytes) ∧ ¬ resetNow (running 2 .bc1 bc1Bytes)
    ∧ decodeInstr (.block 1) (memBytes (running 2 .bc1 bc1Bytes).mem (blockAddr (running 2 .bc1 bc1Bytes).cr 8 0 0) 8)
      = .ok (.bc1 0xF800 0x001F 0xE4E4E4E4) :=
  ⟨by simp [resetNow, passAt, running, State.reset], passAt_dispatching 0 0, by decide +kernel,
    by simp [noResetNext, passAt, running, State.reset], by decide +kernel, decoding_bc1,
    by simp [resetNow, running, State.reset], by decide +kernel⟩

/-- A block of the right and one of a wrong length. -/
theorem witness_ReservedEncodings : bc1Bytes.length = 8 ∧ (bc1Bytes ++ bc1Bytes).length = 16 ∧ bc1Bytes.length ≠ 16 := by decide

theorem witness_RoundTripPlain :
    (Instr.cmdIllegal8to15 8).wellFormed = true ∧ (∀ tag ∈ tagsOf (.bc5s 0 0 0 0 0 0), tag.toNat ≤ 7)
    ∧ sourcesOf (.bc5s 0 0 0 0 0 0) ≠ [] ∧ (∀ tag ∈ tagsOf .sext, tag.toNat ≤ 7) ∧ sourcesOf .sext ≠ [] := by decide

theorem witness_RoundTripBc6h : tagsOf (.bc6hRsvd1F 0) = [8, 9] ∧ sourcesOf (.bc6hRsvd1F 0) ≠ [] := by decide

theorem witness_RoundTripBc7 : tagsOf (.bc7Rsvd 0) = [10] ∧ sourcesOf (.bc7Rsvd 0) ≠ [] := by decide

theorem witness_EncodeInvertsDecode :
    bc1Bytes.length = Format.bc1.nblk ∧ (List.replicate 16 (0xFF : Byte)).length = Format.bc7.nblk := by decide

/-- Every prefix of BC6H modes 1 to 6 is some block's. -/
theorem witness_Bc6hFieldsModes1To6 :
    ((0 : BitVec 128).extractLsb' 0 2 = 0b00#2) ∧ ((1 : BitVec 128).extractLsb' 0 2 = 0b01#2)
    ∧ [2, 6, 10, 14].map (fun p => (BitVec.ofNat 128 p).extractLsb' 0 5) = [0b00010#5, 0b00110#5, 0b01010#5, 0b01110#5] := by
  decide

/-- Every prefix of BC6H modes 7 to 14 is some block's. -/
theorem witness_Bc6hFieldsModes7To14 :
    [18, 22, 26, 30, 3, 7, 11, 15].map (fun p => (BitVec.ofNat 128 p).extractLsb' 0 5)
      = [0b10010#5, 0b10110#5, 0b11010#5, 0b11110#5, 0b00011#5, 0b00111#5, 0b01011#5, 0b01111#5] := by decide

/-- Every prefix of BC7 is some block's. -/
theorem witness_Bc7FieldsModes0To7 :
    (1 : BitVec 128).extractLsb' 0 1 = 1#1 ∧ (2 : BitVec 128).extractLsb' 0 2 = 2#2 ∧ (4 : BitVec 128).extractLsb' 0 3 = 4#3
    ∧ (8 : BitVec 128).extractLsb' 0 4 = 8#4 ∧ (16 : BitVec 128).extractLsb' 0 5 = 16#5 ∧ (32 : BitVec 128).extractLsb' 0 6 = 32#6
    ∧ (64 : BitVec 128).extractLsb' 0 7 = 64#7 ∧ (128 : BitVec 128).extractLsb' 0 8 = 128#8 := by decide

theorem witness_Bc1Decoded : Decoding (running 2 .bc1 bc1Bytes) := decoding_bc1

theorem witness_Bc2Decoded : Decoding (running 2 .bc2 (bc1Bytes ++ bc1Bytes)) := And.intro rfl rfl

theorem witness_Bc3Decoded : Decoding (running 2 .bc3 (bc1Bytes ++ bc1Bytes)) := And.intro rfl rfl

theorem witness_Bc4Decoded : Decoding (running 2 .bc4u bc1Bytes) ∧ Decoding (running 2 .bc4s bc1Bytes) :=
  ⟨And.intro rfl rfl, And.intro rfl rfl⟩

theorem witness_Bc5Decoded :
    Decoding (running 2 .bc5u (bc1Bytes ++ bc1Bytes)) ∧ Decoding (running 2 .bc5s (bc1Bytes ++ bc1Bytes)) :=
  ⟨And.intro rfl rfl, And.intro rfl rfl⟩

/-- Under both tags, so that each signedness occurs. -/
theorem witness_Bc6hTwoSubsetDecoded :
    Decoding (running 2 .bc6hs (bc1Bytes ++ bc1Bytes)) ∧ Decoding (running 2 .bc6hu (bc1Bytes ++ bc1Bytes)) :=
  ⟨And.intro rfl rfl, And.intro rfl rfl⟩

theorem witness_Bc6hOneSubsetDecoded : Decoding (running 2 .bc6hs (0x03 :: List.replicate 15 0)) := And.intro rfl rfl

theorem witness_Bc7Decoded : Decoding (running 2 .bc7 (0x80 :: List.replicate 15 0)) := And.intro rfl rfl

theorem witness_ReservedBlocksRaise : Decoding (running 2 .bc7 (List.replicate 16 0)) := And.intro rfl rfl

theorem witness_BlockClassified : Dispatching (passAt 1 1) := passAt_dispatching 1 1

/-- The clauses: inside a row, at the end of the first row, on the last block; and the end of the pass. -/
theorem witness_PassTransitions :
    (∀ bY bX, ¬ resetNow (accumAt bY bX) ∧ Accumulating (accumAt bY bX))
    ∧ (accumAt 0 0).hs.bX.toNat + 1 < colsOf (accumAt 0 0)
    ∧ colsOf (accumAt 0 1) ≤ (accumAt 0 1).hs.bX.toNat + 1 ∧ (accumAt 0 1).hs.bY.toNat + 1 < nrows (accumAt 0 1).cr
    ∧ colsOf (accumAt 1 1) ≤ (accumAt 1 1).hs.bX.toNat + 1 ∧ nrows (accumAt 1 1).cr ≤ (accumAt 1 1).hs.bY.toNat + 1
    ∧ ¬ resetNow passDone ∧ PassExhausted passDone :=
  ⟨fun bY bX => ⟨by simp [resetNow, accumAt, passAt, running, State.reset], accumAt_accumulating bY bX⟩, by decide +kernel,
    by decide +kernel, by decide +kernel, by decide +kernel, by decide +kernel,
    by simp [resetNow, passDone, passAt, running, State.reset], passDone_exhausted⟩

theorem witness_ReservedBlocksCounted :
    Dispatching (running 1 .bc6hu (0xFF :: List.replicate 15 0)) ∧ noResetNext (running 1 .bc6hu (0xFF :: List.replicate 15 0))
    ∧ (∃ rest, Instr.bc6hRsvd1F 7 = .bc6hRsvd1F rest)
    ∧ Dispatching (running 1 .bc7 (List.replicate 16 0)) ∧ noResetNext (running 1 .bc7 (List.replicate 16 0))
    ∧ (∃ rest, Instr.bc7Rsvd 0 = .bc7Rsvd rest) :=
  ⟨⟨And.intro rfl rfl, rfl, rfl⟩, by simp [noResetNext, running, State.reset], ⟨7, rfl⟩, ⟨And.intro rfl rfl, rfl, rfl⟩,
    by simp [noResetNext, running, State.reset], ⟨0, rfl⟩⟩

/-- An image with blocks and one of 3 by 4 pixels without; both choices of COLBOUND. -/
theorem witness_ClassifyStarts :
    (0 < 16 ∧ Params.default.colBound = .width ∧ { Params.default with colBound := .pitch }.colBound = .pitch) ∧
    Ready (idle (descr .bc7)) ∧ Format.ofTag (descr .bc7).fmt = some .bc7 ∧ (descr .bc7).base ≠ 0
    ∧ nrows (descr .bc7) ≠ 0 ∧ ncols Params.default (descr .bc7) 16 ≠ 0
    ∧ Ready (idle { descr .bc7 with width := 3 }) ∧ ncols Params.default { descr .bc7 with width := 3 } 16 = 0 :=
  ⟨⟨by decide, rfl, rfl⟩, idle_ready _, by decide +kernel, by decide +kernel, by decide +kernel, by decide +kernel, idle_ready _, by decide +kernel⟩

/-- One descriptor for each clause, the coordinates at the first value out of range. -/
theorem witness_LaunchErrors :
    (∀ cr, Ready (idle cr)) ∧ Format.ofTag CtrlRegs.zero.fmt = none ∧ Format.ofTag (11 : Nibble) = none
    ∧ Format.ofTag { descr .bc2 with base := 0 }.fmt = some .bc2 ∧ { descr .bc2 with base := 0 }.base = 0
    ∧ (descr .bc2).base ≠ 0 ∧ ncols Params.default { descr .bc2 with bX := 1 } 16 ≤ ({ descr .bc2 with bX := 1 } : CtrlRegs).bX.toNat
    ∧ (descr .bc2).bX.toNat < ncols Params.default (descr .bc2) 16
    ∧ nrows { descr .bc2 with bY := 1 } ≤ ({ descr .bc2 with bY := 1 } : CtrlRegs).bY.toNat
    ∧ ({ descr .bc2 with height := 0 } : CtrlRegs).width * ({ descr .bc2 with height := 0 } : CtrlRegs).height = 0 :=
  ⟨idle_ready, by decide +kernel, by decide +kernel, by decide +kernel, by decide +kernel, by decide +kernel, by decide +kernel,
    by decide +kernel, by decide +kernel, by decide +kernel⟩

/-- An image with blocks and one without. -/
theorem witness_ClassifyPassCounts :
    (∀ cr, Ready { idle cr with crCmd := some 1 } ∧ noResetNext { idle cr with crCmd := some 1 }
      ∧ { idle cr with crCmd := some 1 }.crCmd = some 1)
    ∧ Format.ofTag (descr .bc7).fmt = some .bc7 ∧ (descr .bc7).base ≠ 0
    ∧ 0 < Spec.blockRows (descr .bc7) * Spec.blockCols Params.default (descr .bc7) 16
    ∧ Spec.blockRows { descr .bc7 with height := 3 } * Spec.blockCols Params.default { descr .bc7 with height := 3 } 16 = 0 :=
  ⟨fun cr => ⟨idle_ready cr, idle_noResetNext cr, rfl⟩, by decide +kernel, by decide +kernel, by decide +kernel, by decide +kernel⟩

/-- The last block of the image. -/
theorem witness_DecodeStarts :
    Ready (idle (descr .bc4s)) ∧ Format.ofTag (descr .bc4s).fmt = some .bc4s ∧ (descr .bc4s).base ≠ 0
    ∧ (descr .bc4s).bX.toNat < ncols Params.default (descr .bc4s) 8 ∧ (descr .bc4s).bY.toNat < nrows (descr .bc4s) :=
  ⟨idle_ready _, by decide +kernel, by decide +kernel, by decide +kernel, by decide +kernel⟩

theorem witness_DecodeTransaction :
    Ready { idle (descr .bc4s) with crCmd := some 2 } ∧ noResetNext { idle (descr .bc4s) with crCmd := some 2 }
    ∧ { idle (descr .bc4s) with crCmd := some 2 }.crCmd = some 2 ∧ Format.ofTag (descr .bc4s).fmt = some .bc4s
    ∧ (descr .bc4s).base ≠ 0 ∧ (descr .bc4s).bX.toNat < ncols Params.default (descr .bc4s) 8
    ∧ (descr .bc4s).bY.toNat < nrows (descr .bc4s) :=
  ⟨idle_ready (descr .bc4s), idle_noResetNext (descr .bc4s), rfl, by decide +kernel, by decide +kernel, by decide +kernel,
    by decide +kernel⟩

theorem witness_StatsStarts :
    Ready (idle { CtrlRegs.zero with width := 1, height := 1, base := 0x1000 })
    ∧ ({ CtrlRegs.zero with width := 1, height := 1, base := 0x1000 } : CtrlRegs).base ≠ 0 ∧ (1 : Word64) * 1 ≠ 0 :=
  ⟨idle_ready _, by decide +kernel, by decide⟩

/-- Two pixels. -/
theorem witness_StatsTwoPasses :
    Ready { idle pixels.cr with crCmd := some 3 } ∧ noResetNext { idle pixels.cr with crCmd := some 3 }
    ∧ { idle pixels.cr with crCmd := some 3 }.crCmd = some 3 ∧ pixels.cr.base ≠ 0
    ∧ 0 < pixels.cr.width.toNat * pixels.cr.height.toNat ∧ pixels.cr.width.toNat * pixels.cr.height.toNat < 2 ^ 60 :=
  ⟨idle_ready pixels.cr, idle_noResetNext pixels.cr, rfl, by decide +kernel, by decide +kernel, by decide +kernel⟩

/-- The widest field that ends at the end of the block, and the empty field there. -/
theorem witness_ExtractCompletes :
    Ready (idle { descr .bc7 with op0 := 64, op1 := 64 }) ∧ Format.ofTag (descr .bc7).fmt = some .bc7 ∧ (descr .bc7).base ≠ 0
    ∧ (64 : Word64).toNat ≤ 64 ∧ (64 : Word64).toNat + (64 : Word64).toNat ≤ 8 * Format.bc7.nblk
    ∧ (64 : Word64).toNat + (0 : Word64).toNat ≤ 8 * Format.bc1.nblk :=
  ⟨idle_ready _, by decide +kernel, by decide +kernel, by decide, by decide, by decide⟩

/-- The operands one past each limit, for each clause. -/
theorem witness_OperandErrors :
    (∀ cr, Ready (idle cr)) ∧ Format.ofTag (11 : Nibble) = none ∧ Format.ofTag (descr .bc1).fmt = some .bc1
    ∧ (descr .bc1).base ≠ 0 ∧ 64 < (65 : Word64).toNat ∧ 8 * Format.bc1.nblk < (1 : Word64).toNat + (64 : Word64).toNat
    ∧ (0 : Word64).toNat = 0 ∧ 2 ^ (63 : Word64).toNat ≤ (0x8000000000000000 : Word64).toNat ∧ 2 < (3 : Word64).toNat
    ∧ 63 < (64 : Word64).toNat ∧ 15 < (16 : Word64).toNat :=
  ⟨idle_ready, by decide, by decide +kernel, by decide +kernel, by decide, by decide, by decide, by decide, by decide, by decide,
    by decide⟩

/-- The three cases of R142: all in the low word, all in the high word, across both. -/
theorem witness_ExtractByWords :
    2 ^ 127 < 2 ^ 128 ∧ (64 ≤ 64 ∧ 0 + 64 ≤ 128) ∧ (64 ≤ 64 ∧ 64 + 64 ≤ 128) ∧ (63 ≤ 64 ∧ 63 + 2 ≤ 128) := by decide

/-- k = 1 and k = 64, each with the largest raw value. -/
theorem witness_SextCompletes :
    Ready (idle { CtrlRegs.zero with op0 := 64, op1 := 0xFFFFFFFFFFFFFFFF }) ∧ 1 ≤ (64 : Word64).toNat ∧ (64 : Word64).toNat ≤ 64
    ∧ (0xFFFFFFFFFFFFFFFF : Word64).toNat < 2 ^ (64 : Word64).toNat ∧ 1 ≤ (1 : Word64).toNat
    ∧ (1 : Word64).toNat < 2 ^ (1 : Word64).toNat :=
  ⟨idle_ready _, by decide, by decide, by decide, by decide, by decide⟩

theorem witness_SextLaws : 1 ≤ 1 ∧ 1 < 2 ^ 1 ∧ (0 : Nat) < 2 ^ (1 - 1) ∧ 2 ^ 8 - 1 < 2 ^ 8 := by decide

/-- The greatest operands of each. -/
theorem witness_FixupIsfixComplete :
    Ready (idle { CtrlRegs.zero with op0 := 2, op1 := 63, op2 := 2 }) ∧ (2 : Word64).toNat ≤ 2 ∧ (63 : Word64).toNat ≤ 63
    ∧ Ready (idle { CtrlRegs.zero with op0 := 2, op1 := 63, op2 := 15 }) ∧ (15 : Word64).toNat ≤ 15 :=
  ⟨idle_ready _, by decide, by decide, idle_ready _, by decide⟩

theorem witness_IllegalCodesRaise :
    Ready State.reset ∧ ((0 : Nibble) = 0 ∨ 8 ≤ (0 : Nibble).toNat) ∧ 8 ≤ (8 : Nibble).toNat ∧ 8 ≤ (15 : Nibble).toNat :=
  ⟨idle_ready CtrlRegs.zero, by decide, by decide, by decide⟩

/-- Pixel 3 is a fix-up position of three subsets in shape 0, and every bound is reached. -/
theorem witness_FixupPositions : (2 ≤ 2 ∧ 63 ≤ 63 ∧ 15 ≤ 15) ∧ isfix 2 0 3 = true ∧ isfix 2 0 4 = false := by decide

theorem witness_UnpackIsTheLoop : (2 ≤ 4 ∧ 4 ≤ 4 ∧ 2 ≤ 2 ∧ 63 ≤ 63) ∧ isfix 2 63 (0 : Fin 16).val = true := by decide

theorem witness_UnpackInvertsPack :
    2 ≤ 3 ∧ 3 ≤ 4 ∧ 1 ≤ 2 ∧ 17 ≤ 63
    ∧ ∀ j : Fin 16, ((Vector.replicate 16 (3 : BitVec 4))[j]).toNat < 2 ^ idxWidth 3 1 17 j.val := by decide

/-- A read, the writes of numbers 0, 9, 10 and 11, a load and a reset with a count, between commands. -/
theorem witness_HostAccesses :
    (∀ ib, Ready { State.reset with inbox := ib }) ∧ State.reset.crCmd = none
    ∧ { State.reset with inbox := [.read 57] }.inbox = .read 57 :: []
    ∧ [0, 9, 10, 11].all (fun n => decide ({ State.reset with inbox := [.write n 7] }.inbox = .write n 7 :: [])) = true
    ∧ { State.reset with inbox := [.store 0x1000 bc1Bytes] }.inbox = .store 0x1000 bc1Bytes :: []
    ∧ { State.reset with inbox := [.reset 5] }.inbox = .reset 5 :: [] :=
  ⟨fun _ => by simp [Ready, State.reset], rfl, rfl, by decide, rfl, rfl⟩

/-- Bytes across the top of the address space, and an address outside them. -/
theorem witness_LoadedBytesAreRead :
    [(1 : Byte), 2].length ≤ 2 ^ 64 ∧ Memory.wf [(3, 9)] = true
    ∧ [(1 : Byte), 2].length ≤ ((1 : Word64) - 0xFFFFFFFFFFFFFFFF).toNat := by decide

theorem witness_CommandsAndBlocksOnlyRead :
    (∃ t, exec .sext (idle { CtrlRegs.zero with op0 := 1 }) = .next t) ∧ ∃ t, exec (.bc1 0 0 0) (passAt 0 0) = .next t :=
  ⟨⟨_, rfl⟩, ⟨_, rfl⟩⟩

/-- The start steps, and a step of each running command. -/
theorem witness_OwnResultGroupOnly :
    (∃ t, exec .classify (idle (descr .bc1)) = .next t) ∧ (∃ t, exec .stats (idle (descr .bc1)) = .next t)
    ∧ (∃ t, exec .decode (idle (descr .bc1)) = .next t) ∧ (∃ t, exec .isfix (idle (descr .bc1)) = .next t)
    ∧ (∃ t, exec (decodeCommand 15) (idle (descr .bc1)) = .next t)
    ∧ ((passAt 0 0).status.phase = .run ∧ ¬ resetNow (passAt 0 0) ∧ (∃ t, step (passAt 0 0) = .next t) ∧ (passAt 0 0).hs.cmd = 1)
    ∧ ((running 2 .bc1 bc1Bytes).status.phase = .run ∧ ¬ resetNow (running 2 .bc1 bc1Bytes)
      ∧ (∃ t, step (running 2 .bc1 bc1Bytes) = .next t) ∧ (running 2 .bc1 bc1Bytes).hs.cmd = 2)
    ∧ (pixels.status.phase = .run ∧ ¬ resetNow pixels ∧ (∃ t, step pixels = .next t) ∧ pixels.hs.cmd = 3) :=
  ⟨⟨_, rfl⟩, ⟨_, rfl⟩, ⟨_, rfl⟩, ⟨_, rfl⟩, ⟨_, rfl⟩,
    ⟨rfl, by simp [resetNow, passAt, running, State.reset], ⟨_, rfl⟩, rfl⟩,
    ⟨rfl, by simp [resetNow, running, State.reset], ⟨_, rfl⟩, rfl⟩,
    ⟨rfl, by simp [resetNow, pixels, running, State.reset], ⟨_, rfl⟩, rfl⟩⟩

/-- A command that ends in an error and a block that raises. -/
theorem witness_ErrorsArePrecise :
    (∃ t, isCommand .classify = true ∧ exec .classify (idle CtrlRegs.zero) = .next t ∧ t.status.err ≠ .none)
    ∧ (∃ t, (running 2 .bc7 (List.replicate 16 0)).status.err = .none
      ∧ exec (.bc7Rsvd 0) (running 2 .bc7 (List.replicate 16 0)) = .next t ∧ t.status.err ≠ .none) :=
  ⟨⟨_, rfl, rfl, by decide +kernel⟩, ⟨_, rfl, rfl, by decide +kernel⟩⟩

/-- Two machines that differ in the results they hold. -/
theorem witness_CommandPurity :
    (isCommand .sext = true ∧ (idle CtrlRegs.zero).cr = { idle CtrlRegs.zero with xres := 7 }.cr
      ∧ (∃ t, exec .sext (idle CtrlRegs.zero) = .next t) ∧ ∃ t, exec .sext { idle CtrlRegs.zero with xres := 7 } = .next t)
    ∧ ((∀ n, Ready { idle (descr .bc1) with crCmd := some 1, total := n }
        ∧ { idle (descr .bc1) with crCmd := some 1, total := n }.inbox = [])
      ∧ (∃ t, Sys2Proof.core.run (1 + 1) { idle (descr .bc1) with crCmd := some 1, total := 0 } = .next t)
      ∧ ∃ t, Sys2Proof.core.run (1 + 1) { idle (descr .bc1) with crCmd := some 1, total := 7 } = .next t) :=
  ⟨⟨rfl, rfl, ⟨_, rfl⟩, ⟨_, rfl⟩⟩, fun _ => ⟨idle_ready (descr .bc1), rfl⟩, ⟨_, rfl⟩, ⟨_, rfl⟩⟩

/-- The three steps of a pass and a step of the host. -/
theorem witness_StepKeepsInv :
    (Inv (passAt 0 0) ∧ ∃ t, step (passAt 0 0) = .next t) ∧ (Inv (accumAt 0 0) ∧ ∃ t, step (accumAt 0 0) = .next t)
    ∧ (Inv passDone ∧ ∃ t, step passDone = .next t)
    ∧ Inv { State.reset with inbox := [.write 10 1] } ∧ ∃ t, step { State.reset with inbox := [.write 10 1] } = .next t :=
  ⟨⟨passAt_inv, ⟨_, rfl⟩⟩, ⟨accumAt_inv, ⟨_, rfl⟩⟩, ⟨passDone_inv, ⟨_, rfl⟩⟩, reset_inv _, ⟨_, rfl⟩⟩

theorem witness_StepNeverStops : Inv (passAt 0 0) ∧ Inv (accumAt 0 0) ∧ Inv { State.reset with inbox := [.write 10 1] } :=
  ⟨passAt_inv, accumAt_inv, reset_inv _⟩

theorem passAt_fmt {fmt : Format} (hf : Format.ofTag (passAt 0 0).cr.fmt = some fmt) : fmt = .bc1 :=
  Option.some.inj (hf.symm.trans (show Format.ofTag (passAt 0 0).cr.fmt = some .bc1 by decide +kernel))

/-- The start of a pass, where nothing has been counted, and its first ACCUM. -/
theorem witness_StepKeepsHistAccounts :
    (Inv (passAt 0 0) ∧ HistAccounts (passAt 0 0) ∧ ∃ t, step (passAt 0 0) = .next t)
    ∧ Inv (accumAt 0 0) ∧ HistAccounts (accumAt 0 0) ∧ ∃ t, step (accumAt 0 0) = .next t := by
  refine ⟨⟨passAt_inv, fun _ fmt hf => ?_, ⟨_, rfl⟩⟩, accumAt_inv, fun _ fmt hf => ?_, ⟨_, rfl⟩⟩
  · cases passAt_fmt hf
    decide +kernel
  · cases passAt_fmt (show Format.ofTag (passAt 0 0).cr.fmt = some fmt from hf)
    decide +kernel

theorem witness_StopsOutsideAPass :
    (isCommand .sext = true ∧ (passAt 0 0).status.phase = .run)
    ∧ isCommand (.bc1 0 0 0) = false ∧ ¬ Dispatching State.reset ∧ ¬ Decoding State.reset
    ∧ ¬ Dispatching (accumAt 0 0) ∧ ¬ Decoding (accumAt 0 0) ∧ ¬ Dispatching passDone ∧ ¬ Decoding passDone :=
  ⟨⟨rfl, rfl⟩, rfl, fun h => absurd h.1.1 (by decide), fun h => absurd h.1 (by decide), fun h => absurd h.2.1 (by decide),
    fun h => absurd h.2 (by decide), fun h => absurd h.2.2 (by decide), fun h => absurd h.2 (by decide)⟩

/-- A NaN, a negative number, and an accumulator that is neither. -/
theorem witness_NaNPropagates :
    isNaN 0x7FC00000 = true ∧ (fNeg 0x80000001 = true ∧ fKey 0x80000001 < 0) ∧ isNaN 0x7F800000 = false := by decide

theorem witness_NumericSpecials :
    (isFinite 0x00000001 = true ∧ fKey 0x00000001 ≠ 0) ∧ isFinite 0x80000000 = true ∧ fKey 0x80000000 = 0 := by decide

theorem val_one : Spec.val 0x3F800000 = 1 := by
  have h1 : (0x3F800000 : F32).getLsbD 31 = false := by decide
  have h2 : ((0x3F800000 : F32).extractLsb' 23 8).toNat = 127 := by decide
  have h3 : ((0x3F800000 : F32).extractLsb' 0 23).toNat = 0 := by decide
  simp only [Spec.val, h1, h2, h3]
  norm_num

theorem val_zero : Spec.val 0 = 0 := by
  have h1 : (0 : F32).getLsbD 31 = false := by decide
  have h2 : ((0 : F32).extractLsb' 23 8).toNat = 0 := by decide
  have h3 : ((0 : F32).extractLsb' 0 23).toNat = 0 := by decide
  simp only [Spec.val, h1, h2, h3]
  norm_num

/-- 1 and 1, of a non-zero sum, a zero difference, a positive root and a legal divisor; 1 and 0; 0 and 0; and 2^24. -/
theorem witness_FiniteArithmeticRounds :
    isFinite 0x3F800000 = true ∧ isFinite 0 = true ∧ Spec.val 0x3F800000 + Spec.val 0x3F800000 ≠ 0
    ∧ Spec.val 0x3F800000 - Spec.val 0x3F800000 = 0 ∧ Spec.val 0x3F800000 - Spec.val 0 ≠ 0 ∧ Spec.val 0 + Spec.val 0 = 0
    ∧ Spec.val 0x3F800000 ≠ 0 ∧ 0 < Spec.val 0x3F800000 ∧ (2 ^ 24 : Nat) ≤ 2 ^ 24 := by
  rw [val_one, val_zero]
  norm_num
  decide

/-- An EXTRACT and a DECODE of a loaded block. -/
theorem witness_ExtentCoversExtract :
    Format.ofTag (running 4 .bc1 bc1Bytes).cr.fmt = some .bc1 ∧ LaunchPremises (running 4 .bc1 bc1Bytes) 4
    ∧ LaunchPremises (running 2 .bc1 bc1Bytes) 2 ∧ 7 < Format.bc1.nblk :=
  ⟨by decide +kernel, ⟨by decide +kernel, by decide, by decide +kernel⟩, ⟨by decide +kernel, by decide, by decide +kernel⟩,
    by decide⟩

/-- The first and the last number of every range that names no register; the reset result file is zero. -/
theorem witness_RegisterReads :
    (State.reset.dr = DecodeResult.zero ∧ 64 ≤ 64) ∧
    [14, 15, 58, 63, 73, 79, 104, 111, 136, 143, 150, 159, 192].all (fun n => decide
      (n = 14 ∨ n = 15 ∨ (58 ≤ n ∧ n < 64) ∨ (73 ≤ n ∧ n < 80) ∨ (104 ≤ n ∧ n < 112) ∨ (136 ≤ n ∧ n < 144)
        ∨ (150 ≤ n ∧ n < 160) ∨ 192 ≤ n)) = true :=
  ⟨⟨rfl, by decide⟩, by decide⟩

end Sys2Proof.Tests
end

section
/-!
The fix-up table and the fix-up positions (spec/40_extract_fixup.md rules R149 and R151): the laws of `fixupEntry`,
and `isfix` as membership in the `p + 1` pairwise distinct entries of a row that it consults.
-/
namespace Sys2Proof.Machine

/-- A column past the last subset holds 0 (rule R150). -/
theorem fixupEntry_of_lt {p q : Nat} (sh : Nat) (h : p < q) : fixupEntry p sh q = 0 := by
  unfold fixupEntry
  split
  case h_4 => rfl
  all_goals omega

/-- Subset 0's fix-up position is pixel 0 (rule R149). -/
@[simp] theorem fixupEntry_column_zero (p sh : Nat) : fixupEntry p sh 0 = 0 := by
  unfold fixupEntry
  split
  case h_4 => rfl
  all_goals contradiction

/-- The part of rule R149 that reads the table: the second subset of two. -/
theorem fixupEntry_one_range {sh : Nat} (h : sh ≤ 63) : 1 ≤ fixupEntry 1 sh 1 ∧ fixupEntry 1 sh 1 ≤ 15 := by
  revert sh
  decide

/-- The part of rule R149 that reads the table: the second and the third subset of three. -/
theorem fixupEntry_two_range {sh : Nat} (h : sh ≤ 63) :
    (1 ≤ fixupEntry 2 sh 1 ∧ fixupEntry 2 sh 1 ≤ 15) ∧ (1 ≤ fixupEntry 2 sh 2 ∧ fixupEntry 2 sh 2 ≤ 15)
    ∧ fixupEntry 2 sh 1 ≠ fixupEntry 2 sh 2 := by
  revert sh
  decide

/-- The fix-up positions that a block of `p + 1` subsets and shape `sh` consults, one a subset. -/
def fixupRow (p sh : Nat) : List Nat := (List.range (p + 1)).map (fixupEntry p sh)

@[simp] theorem length_fixupRow (p sh : Nat) : (fixupRow p sh).length = p + 1 := by simp [fixupRow]

theorem mem_fixupRow {p sh j : Nat} : j ∈ fixupRow p sh ↔ ∃ q ≤ p, j = fixupEntry p sh q := by
  simp [fixupRow, eq_comm]

theorem isfix_iff_mem_fixupRow {p sh j : Nat} : isfix p sh j = true ↔ j ∈ fixupRow p sh := by
  simp [isfix, fixupRow]

theorem fixupRow_zero (sh : Nat) : fixupRow 0 sh = [0] := by simp [fixupRow]

theorem fixupRow_one (sh : Nat) : fixupRow 1 sh = [0, fixupEntry 1 sh 1] := by simp [fixupRow, List.range_succ]

theorem fixupRow_two (sh : Nat) : fixupRow 2 sh = [0, fixupEntry 2 sh 1, fixupEntry 2 sh 2] := by
  simp [fixupRow, List.range_succ]

/-- The distinctness of rule R149, with the range of a pixel number. -/
theorem fixupRow_nodup_and_lt {p sh : Nat} (hp : p ≤ 2) (hsh : sh ≤ 63) :
    (fixupRow p sh).Nodup ∧ ∀ j ∈ fixupRow p sh, j < 16 := by
  obtain rfl | rfl | rfl : p = 0 ∨ p = 1 ∨ p = 2 := by omega
  · simp [fixupRow_zero]
  · have := fixupEntry_one_range hsh
    simp only [fixupRow_one, List.nodup_cons, List.nodup_nil, List.mem_cons, List.not_mem_nil, or_false,
      not_false_eq_true, and_true, forall_eq_or_imp, forall_eq]
    omega
  · have := fixupEntry_two_range hsh
    simp only [fixupRow_two, List.nodup_cons, List.nodup_nil, List.mem_cons, List.not_mem_nil, or_false,
      not_false_eq_true, and_true, forall_eq_or_imp, forall_eq]
    omega

/-- Rule R151's count: the pixels at a fix-up position are a rearrangement of the row, because the row is without
repetition and inside the block. -/
theorem countP_isfix {p sh : Nat} (hp : p ≤ 2) (hsh : sh ≤ 63) :
    ((List.range 16).countP fun j => isfix p sh j) = p + 1 := by
  obtain ⟨hnodup, hlt⟩ := fixupRow_nodup_and_lt hp hsh
  have hperm : ((List.range 16).filter fun j => isfix p sh j).Perm (fixupRow p sh) := by
    refine (List.perm_ext_iff_of_nodup (List.nodup_range.filter _) hnodup).2 fun j => ?_
    rw [List.mem_filter, List.mem_range, isfix_iff_mem_fixupRow]
    exact and_iff_right_of_imp (hlt j)
  rw [List.countP_eq_length_filter, hperm.length_eq, length_fixupRow]

/-- Settles O42: the table's clauses are the laws of `fixupEntry`, those of `isfix` are membership in `fixupRow` and
its count. -/
theorem fixupPositions : Obligations.FixupPositions := by
  refine ⟨fun sh hsh => ?_, fun p sh hp hsh => ⟨fun j _ => ?_, ?_, fun j _ => ?_, countP_isfix hp hsh⟩⟩
  · obtain ⟨hlow, hhigh⟩ := fixupEntry_one_range hsh
    obtain ⟨⟨hlow₁, hhigh₁⟩, ⟨hlow₂, hhigh₂⟩, hne⟩ := fixupEntry_two_range hsh
    exact ⟨fun p _ => fixupEntry_column_zero p sh, fixupEntry_of_lt sh (by decide), fixupEntry_of_lt sh (by decide),
      fixupEntry_of_lt sh (by decide), hlow, hhigh, hlow₁, hhigh₁, hlow₂, hhigh₂, hne⟩
  · exact isfix_iff_mem_fixupRow.trans mem_fixupRow
  · exact isfix_iff_mem_fixupRow.2 (mem_fixupRow.2 ⟨0, Nat.zero_le p, (fixupEntry_column_zero p sh).symm⟩)
  · rw [isfix_iff_mem_fixupRow, fixupRow_zero, List.mem_singleton]

end Sys2Proof.Machine
end

section
/-!
The BC1 to BC5 block kinds under DECODE (spec/41_bc1_bc5.md rules R161 to R172): a field inside a field is a field of the
block, an extended component is the core's `setWidth` or `signExtend`, a sub-type flag is the compare its rule writes;
then each kind delivers its result.
-/
namespace Sys2Proof.Machine

variable {s : State}

/-! ## Fields of a block -/

/-- A field of a field is a field of the block (rule R102). -/
theorem extractLsb'_extractLsb' {n k : Nat} (B : BitVec n) {off i w : Nat} (h : i + w ≤ k) :
    (B.extractLsb' off k).extractLsb' i w = B.extractLsb' (off + i) w := by
  ext j hj
  have hk : i + j < k := by omega
  simp [hk, Nat.add_assoc]

/-- An index list of `w`-bit entries is read from the block at its own offset (rule R106). -/
theorem bitmap_extractLsb' {n k : Nat} (B : BitVec n) (off w : Nat) (h : 16 * w ≤ k) :
    bitmap w (B.extractLsb' off k) = Vector.ofFn fun j : Fin 16 => (B.extractLsb' (off + w * j.val) w).setWidth 4 := by
  unfold bitmap
  congr 1
  funext j
  have hj : w * j.val + w ≤ k := by
    calc w * j.val + w = w * (j.val + 1) := (Nat.mul_succ w j.val).symm
      _ ≤ w * 16 := Nat.mul_le_mul_left w j.isLt
      _ ≤ k := by omega
  rw [extractLsb'_extractLsb' B hj]

/-- The components of a 565 word are read from the block at the word's own offset (rule R161). -/
theorem c565_extractLsb' {n : Nat} (B : BitVec n) (off : Nat) (a : BitVec 16) :
    c565 (B.extractLsb' off 16) a = #v[(B.extractLsb' (off + 11) 5).setWidth 16, (B.extractLsb' (off + 5) 6).setWidth 16,
      (B.extractLsb' off 5).setWidth 16, a] := by
  unfold c565
  rw [extractLsb'_extractLsb' B (by decide), extractLsb'_extractLsb' B (by decide), extractLsb'_extractLsb' B (by decide)]
  rfl

/-! ## Endpoint components -/

theorem noEndpoint_eq : noEndpoint = #v[0, 0, 0, 0] := rfl

theorem noIndices_eq_zero_ix1 : noIndices = DecodeResult.zero.ix1 := rfl

theorem component_unsigned {w : Nat} (x : BitVec w) : component false x = x.setWidth 16 := BitVec.ofNat_toNat 16 x

/-- The sign extension of rule R146 is the signed value of the field. -/
theorem sextInt_toNat {w : Nat} (x : BitVec w) : sextInt w x.toNat = x.toInt := by
  rw [sextInt, BitVec.testBit_toNat, ← BitVec.msb_eq_getLsbD_last, BitVec.toInt_eq_msb_cond]
  norm_cast

theorem component_signed {w : Nat} (x : BitVec w) : component true x = x.signExtend 16 :=
  congrArg (BitVec.ofInt 16) (sextInt_toNat x)

/-! ## Sub-type flags -/

theorem subBits_transparent (c0 c1 : BitVec 16) :
    subBits (transparent c0 c1) false = if c0.toNat ≤ c1.toNat then 1 else 0 := by
  unfold transparent
  split_ifs with h <;> simp [h, subBits]

/-- Two flags that are the failures of two compares: each sets its own bit (rule R32). -/
theorem subBits_not_decide (p q : Prop) [Decidable p] [Decidable q] :
    subBits (!decide p) (!decide q) = (if p then 0 else 1) + (if q then 0 else 2) := by
  by_cases hp : p <;> by_cases hq : q <;> simp [hp, hq, subBits]

/-- The same where `SUB.T1` is not used. -/
theorem subBits_not_decide_false (p : Prop) [Decidable p] : subBits (!decide p) false = if p then 0 else 1 := by
  by_cases hp : p <;> simp [hp, subBits]

theorem subBits_sixvalueU (e0 e1 : BitVec 8) :
    subBits (sixvalueU e0 e1) false = if e0.toNat > e1.toNat then 0 else 1 := subBits_not_decide_false _

theorem subBits_sixvalueS (e0 e1 : BitVec 8) :
    subBits (sixvalueS e0 e1) false = if e0.toInt > e1.toInt then 0 else 1 := subBits_not_decide_false _

theorem subBits_sixvalueU_sixvalueU (u0 u1 v0 v1 : BitVec 8) :
    subBits (sixvalueU u0 u1) (sixvalueU v0 v1) =
      (if u0.toNat > u1.toNat then 0 else 1) + (if v0.toNat > v1.toNat then 0 else 2) := subBits_not_decide _ _

theorem subBits_sixvalueS_sixvalueS (u0 u1 v0 v1 : BitVec 8) :
    subBits (sixvalueS u0 u1) (sixvalueS v0 v1) =
      (if u0.toInt > u1.toInt then 0 else 1) + (if v0.toInt > v1.toInt then 0 else 2) := subBits_not_decide _ _

/-! ## The delivery -/

/-- A block of a kind that decodes delivers its result under DECODE, whatever its buckets (rule R313). -/
theorem execDecodable_decoding (h : Decoding s) (buckets : List (Fin 15)) (d : DecodeResult) :
    execDecodable buckets d s = .next (Spec.delivered d s) := fetchedBlock_decoding h

theorem exec_bc1_decoding (h : Decoding s) (c0 c1 : BitVec 16) (idx : BitVec 32) :
    exec (.bc1 c0 c1 idx) s = .next (Spec.delivered (bc1Result c0 c1 idx) s) := execDecodable_decoding h _ _

theorem exec_bc2_decoding (h : Decoding s) (abm : BitVec 64) (c0 c1 : BitVec 16) (idx : BitVec 32) :
    exec (.bc2 abm c0 c1 idx) s = .next (Spec.delivered (bc2Result abm c0 c1 idx) s) := execDecodable_decoding h _ _

theorem exec_bc3_decoding (h : Decoding s) (a0 a1 : BitVec 8) (aidx : BitVec 48) (c0 c1 : BitVec 16) (idx : BitVec 32) :
    exec (.bc3 a0 a1 aidx c0 c1 idx) s = .next (Spec.delivered (bc3Result a0 a1 aidx c0 c1 idx) s) :=
  execDecodable_decoding h _ _

theorem exec_bc4u_decoding (h : Decoding s) (e0 e1 : BitVec 8) (idx : BitVec 48) :
    exec (.bc4u e0 e1 idx) s = .next (Spec.delivered (bc4uResult e0 e1 idx) s) := execDecodable_decoding h _ _

theorem exec_bc4s_decoding (h : Decoding s) (e0 e1 : BitVec 8) (idx : BitVec 48) :
    exec (.bc4s e0 e1 idx) s = .next (Spec.delivered (bc4sResult e0 e1 idx) s) := execDecodable_decoding h _ _

theorem exec_bc5u_decoding (h : Decoding s) (ue0 ue1 : BitVec 8) (uidx : BitVec 48) (ve0 ve1 : BitVec 8)
    (vidx : BitVec 48) :
    exec (.bc5u ue0 ue1 uidx ve0 ve1 vidx) s = .next (Spec.delivered (bc5uResult ue0 ue1 uidx ve0 ve1 vidx) s) :=
  execDecodable_decoding h _ _

theorem exec_bc5s_decoding (h : Decoding s) (ue0 ue1 : BitVec 8) (uidx : BitVec 48) (ve0 ve1 : BitVec 8)
    (vidx : BitVec 48) :
    exec (.bc5s ue0 ue1 uidx ve0 ve1 vidx) s = .next (Spec.delivered (bc5sResult ue0 ue1 uidx ve0 ve1 vidx) s) :=
  execDecodable_decoding h _ _

/-! ## The block kinds -/

/-- Settles O15: the colour fields at offset 0, and rule R163's compare. -/
theorem bc1Decoded : Obligations.Bc1Decoded := by
  refine fun B s h => ⟨rfl, ?_⟩
  simp (disch := decide) only [exec_bc1_decoding h, bc1Result, colorResult, c565_extractLsb', bitmap_extractLsb',
    Nat.reduceAdd, noEndpoint_eq, noIndices_eq_zero_ix1, subBits_transparent]

/-- Settles O16: the colour fields at offset 64, the explicit alpha as a list of 4-bit entries. -/
theorem bc2Decoded : Obligations.Bc2Decoded := by
  refine fun B s h => ⟨rfl, ?_⟩
  simp (disch := decide) only [exec_bc2_decoding h, bc2Result, colorResult, c565_extractLsb', bitmap_extractLsb',
    Nat.reduceAdd, noEndpoint_eq]

/-- Settles O17: the colour fields at offset 64, the alpha half before it, and rule R166's compare. -/
theorem bc3Decoded : Obligations.Bc3Decoded := by
  refine fun B s h => ⟨rfl, ?_⟩
  simp (disch := decide) only [exec_bc3_decoding h, bc3Result, colorResult, c565_extractLsb', bitmap_extractLsb',
    Nat.reduceAdd, noEndpoint_eq, component_unsigned, subBits_sixvalueU]

/-- Settles O18: the two signednesses differ in the extension, the compare and `NDIV` only. -/
theorem bc4Decoded : Obligations.Bc4Decoded := by
  refine fun B s h => ⟨⟨rfl, ?unsigned⟩, ⟨rfl, ?signed⟩⟩
  case unsigned =>
    simp (disch := decide) only [exec_bc4u_decoding h, bc4uResult, channelResult, rgba, bitmap_extractLsb', noEndpoint_eq,
      noIndices_eq_zero_ix1, component_unsigned, subBits_sixvalueU]
  case signed =>
    simp (disch := decide) only [exec_bc4s_decoding h, bc4sResult, channelResult, rgba, bitmap_extractLsb', noEndpoint_eq,
      noIndices_eq_zero_ix1, component_signed, subBits_sixvalueS]

/-- Settles O19: two BC4 halves, each with its own compare and its own bit of `SUB`. -/
theorem bc5Decoded : Obligations.Bc5Decoded := by
  refine fun B s h => ⟨⟨rfl, ?unsigned⟩, ⟨rfl, ?signed⟩⟩
  case unsigned =>
    simp (disch := decide) only [exec_bc5u_decoding h, bc5uResult, channelResult, rgba, bitmap_extractLsb', noEndpoint_eq,
      component_unsigned, subBits_sixvalueU_sixvalueU]
  case signed =>
    simp (disch := decide) only [exec_bc5s_decoding h, bc5sResult, channelResult, rgba, bitmap_extractLsb', noEndpoint_eq,
      component_signed, subBits_sixvalueS_sixvalueS]

end Sys2Proof.Machine
end

section
/-!
The illegal command codes (spec/46_commands.md rule R318): the row each of them selects, and the one error both rows
raise.
-/
namespace Sys2Proof.Machine

variable {s : State} {code : Nibble}

/-- The codes past ISFIX share one row, which keeps the code for `EINFO` (rule R110). -/
theorem decodeCommand_of_eight_le (h : 8 ≤ code.toNat) : decodeCommand code = .cmdIllegal8to15 code := by
  unfold decodeCommand
  split
  case h_9 => rfl
  all_goals omega

/-- The two rows of rule R318 differ in the code alone: each runs the same action with its own. -/
theorem exec_decodeCommand_illegal (hcode : code = 0 ∨ 8 ≤ code.toNat) :
    exec (decodeCommand code) s = runCommand code (illegalCodeAct code) s := by
  obtain rfl | hge := hcode
  · rfl
  · rw [decodeCommand_of_eight_le hge]
    rfl

/-- ERROR ENTRY overwrites the `PHASE` and `ERR` of the command start, so that those two fields are all that an illegal
code leaves changed in `STATUS` (rule R318). -/
theorem illegalCodeAct_startCommand_status :
    (illegalCodeAct code (startCommand code s)).status = { s.status with phase := .terminal, err := .illegalOperand } :=
  rfl

theorem illegalCodeAct_einfo : (illegalCodeAct code s).einfo = BitVec.ofNat 64 (10 + 256 * code.toNat) :=
  raiseError_einfo _ _ _

/-- Settles O40: the code selects a row of rule R318, and between commands the row's next state is ERROR ENTRY after
the command start, neither of which writes a result, the descriptor or memory. -/
theorem illegalCodesRaise : Obligations.IllegalCodesRaise := by
  intro s code hready hcode
  have hnext : exec (decodeCommand code) s = .next (illegalCodeAct code (startCommand code s)) :=
    (exec_decodeCommand_illegal hcode).trans (runCommand_ready hready)
  refine ⟨?zero, fun hne => decodeCommand_of_eight_le (hcode.resolve_left hne), _, hnext, illegalCodeAct_einfo,
    illegalCodeAct_startCommand_status, rfl, ?frame⟩
  case zero =>
    rintro rfl
    rfl
  case frame => simp [illegalCodeAct]

end Sys2Proof.Machine
end

section
/-!
The idle core (spec/60_exceptions.md rule R365): with no command running and none pending a step is the host's, and
without an access of the host nothing is left that could change the state.
-/
namespace Sys2Proof.Machine

variable {s : State}

/-- Between commands only the host acts; a due reset is one of its accesses, so it needs no case of its own (rules
R365, R371). -/
theorem step_eq_hostStep (hready : Ready s) (hcmd : s.crCmd = none) : step s = .next (hostStep s) := by
  obtain ⟨_, hstep⟩ | ⟨_, hrun, _⟩ | ⟨_, _, code, hcode, _⟩ | ⟨_, _, _, hstep⟩ := step_cases s
  · exact hstep
  · exact absurd hrun hready
  · simp [hcmd] at hcode
  · exact hstep

theorem hostStep_of_inbox_nil (h : s.inbox = []) : hostStep s = s := by
  unfold hostStep
  rw [h]

/-- Settles O3: the step of an idle core is the host's, and an empty inbox asks nothing. -/
theorem idleKeepsState : Obligations.IdleKeepsState := by
  intro s hready hcmd hinbox
  rw [step_eq_hostStep hready hcmd, hostStep_of_inbox_nil hinbox]

end Sys2Proof.Machine
end

section
/-!
Reset (spec/70_reset_and_hazards.md rule R370): a due reset comes before the core's step, so the step is the host's
access whatever the core is doing, and that access is `applyReset`.
-/
namespace Sys2Proof.Machine

variable {s : State}

/-- A due reset is served first, also during `RUN` and with a command pending. -/
theorem step_eq_hostStep_of_resetNow (h : resetNow s) : step s = .next (hostStep s) := by
  obtain ⟨_, hstep⟩ | ⟨hn, _⟩ | ⟨hn, _⟩ | ⟨hn, _⟩ := step_cases s
  · exact hstep
  all_goals exact absurd h hn

theorem hostStep_of_inbox_cons {op : HostOp} {rest : List HostOp} (h : s.inbox = op :: rest) :
    hostStep s = serve op { s with inbox := rest } := by
  unfold hostStep
  rw [h]

theorem step_of_inbox_reset {rest : List HostOp} (h : s.inbox = .reset 0 :: rest) :
    step s = .next (applyReset { s with inbox := rest }) := by
  rw [step_eq_hostStep_of_resetNow ⟨rest, h⟩, hostStep_of_inbox_cons h]
  rfl

@[simp] theorem applyReset_cr : (applyReset s).cr = CtrlRegs.zero := rfl
@[simp] theorem applyReset_crCmd : (applyReset s).crCmd = none := rfl
@[simp] theorem applyReset_status : (applyReset s).status = State.reset.status := rfl
@[simp] theorem applyReset_einfo : (applyReset s).einfo = 0 := rfl
@[simp] theorem applyReset_hs : (applyReset s).hs = State.reset.hs := rfl
@[simp] theorem applyReset_mem : (applyReset s).mem = s.mem := rfl
@[simp] theorem applyReset_params : (applyReset s).params = s.params := rfl
@[simp] theorem applyReset_inbox : (applyReset s).inbox = s.inbox := rfl

/-- Settles O2: the step of a due reset is `applyReset` whatever the command in execution, and every field that the
statement names is either the one of `State.reset` or one that rule R370 leaves unaffected. -/
theorem resetApplied : Obligations.ResetApplied := by
  intro s rest hinbox
  exact ⟨_, step_of_inbox_reset hinbox, applyReset_cr, applyReset_crCmd, applyReset_status, applyReset_einfo,
    congrArg Hidden.cmd applyReset_hs, congrArg Hidden.bY applyReset_hs, congrArg Hidden.bX applyReset_hs,
    congrArg Hidden.step applyReset_hs, applyReset_mem, applyReset_params, applyReset_inbox⟩

end Sys2Proof.Machine
end

section
/-!
A block as a list of segments (spec/00_scope.md rule R8, spec/30_encoding.md rules R101 to R103): segments with pairwise
apart ranges are read back one by one, and segments that cover the block and hold its own bits are the block.
-/
namespace Sys2Proof

/-! ## Bits of fields and segments -/

@[simp] theorem getLsbD_field (B : BitVec 128) (off w i : Nat) :
    (field B off w).getLsbD i = (decide (i < w) && B.getLsbD (off + i)) := by
  simp [field]

@[simp] theorem getLsbD_place {off w : Nat} (x : BitVec w) (b : Nat) :
    (place off x).getLsbD b = (decide (b < 128) && (decide (off ≤ b) && x.getLsbD (b - off))) := by
  simp only [place, BitVec.getLsbD_shiftLeft, BitVec.getLsbD_setWidth]
  by_cases hb : b < 128
  · by_cases ho : off ≤ b
    · simp [hb, ho, show b - off < 128 by omega]
    · simp [ho, not_le.1 ho]
  · simp [hb]

/-- A run of consecutive bits of a block with its value. -/
structure Segment where
  off : Nat
  w   : Nat
  val : BitVec w

/-- The bits a segment occupies: its offset and its width. -/
def Segment.range (g : Segment) : Nat × Nat := (g.off, g.w)

/-- Two ranges have no bit in common. -/
abbrev Apart (a b : Nat × Nat) : Prop := a.1 + a.2 ≤ b.1 ∨ b.1 + b.2 ≤ a.1

theorem Apart.symm {a b : Nat × Nat} (h : Apart a b) : Apart b a := h.elim .inr .inl

/-- The ranges lie in the first `n` bits and none overlaps another. -/
abbrev Separate (n : Nat) (rs : List (Nat × Nat)) : Prop := rs.Pairwise Apart ∧ ∀ r ∈ rs, r.1 + r.2 ≤ n

/-- Every one of the first `n` bits lies in one of the ranges. -/
abbrev Covering (n : Nat) (rs : List (Nat × Nat)) : Prop := ∀ b < n, ∃ r ∈ rs, r.1 ≤ b ∧ b < r.1 + r.2

/-- The block with the values of the segments at their places, zero elsewhere. -/
def assemble (gs : List Segment) : BitVec 128 := gs.foldr (fun g B => place g.off g.val ||| B) 0

@[simp] theorem assemble_nil : assemble [] = 0 := rfl

@[simp] theorem assemble_cons (g : Segment) (gs : List Segment) : assemble (g :: gs) = place g.off g.val ||| assemble gs := rfl

@[simp] theorem assemble_append (gs hs : List Segment) : assemble (gs ++ hs) = assemble gs ||| assemble hs := by
  induction gs with
  | nil => simp
  | cons g gs ih => simp [ih, BitVec.or_assoc]

theorem getLsbD_assemble (gs : List Segment) (b : Nat) :
    (assemble gs).getLsbD b = true ↔ ∃ g ∈ gs, (place g.off g.val).getLsbD b = true := by
  induction gs with
  | nil => simp
  | cons g gs ih => rw [assemble_cons, BitVec.getLsbD_or, Bool.or_eq_true, ih]; simp

theorem getLsbD_place_iff {off w : Nat} (x : BitVec w) (b : Nat) :
    (place off x).getLsbD b = true ↔ b < 128 ∧ off ≤ b ∧ x.getLsbD (b - off) = true := by
  simp

/-- A bit that is set lies inside the value. -/
theorem lt_of_getLsbD_place {off w b : Nat} {x : BitVec w} (h : (place off x).getLsbD b = true) : off ≤ b ∧ b < off + w := by
  rw [getLsbD_place_iff] at h
  have := BitVec.lt_of_getLsbD h.2.2
  omega

/-- Reading a segment back: no other segment reaches into its range. -/
theorem field_assemble {gs : List Segment} {g : Segment} (hsep : Separate 128 (gs.map Segment.range)) (hg : g ∈ gs) :
    field (assemble gs) g.off g.w = g.val := by
  have hin : g.off + g.w ≤ 128 := hsep.2 _ (List.mem_map_of_mem hg)
  refine BitVec.eq_of_getLsbD_eq fun i hi => ?_
  rw [getLsbD_field, decide_eq_true hi, Bool.true_and, Bool.eq_iff_iff, getLsbD_assemble]
  have hbit : (place g.off g.val).getLsbD (g.off + i) = true ↔ g.val.getLsbD i = true := by
    rw [getLsbD_place_iff, Nat.add_sub_cancel_left]
    exact ⟨fun h => h.2.2, fun h => ⟨by omega, by omega, h⟩⟩
  refine ⟨?_, fun h => ⟨g, hg, hbit.2 h⟩⟩
  rintro ⟨g', hg', h⟩
  by_cases he : g' = g
  · exact hbit.1 (he ▸ h)
  · have hpw := List.pairwise_map.1 hsep.1
    have hap : Apart g'.range g.range := 
      haveI : Std.Symm fun a b : Segment => Apart a.range b.range := ⟨fun _ _ h => h.symm⟩
      hpw.forall hg' hg he
    have := lt_of_getLsbD_place h
    simp only [Apart, Segment.range] at hap
    omega

/-- A block is assembled from its own fields, once they cover every bit that can be set. -/
theorem assemble_fields {gs : List Segment} {B : BitVec 128} {n : Nat} (hB : B.toNat < 2 ^ n)
    (hcov : Covering n (gs.map Segment.range)) (hval : ∀ g ∈ gs, g.val = field B g.off g.w) : assemble gs = B := by
  refine BitVec.eq_of_getLsbD_eq fun b hb => ?_
  rw [Bool.eq_iff_iff, getLsbD_assemble]
  constructor
  · rintro ⟨g, hg, h⟩
    rw [hval g hg, getLsbD_place_iff, getLsbD_field] at h
    obtain ⟨-, hle, h⟩ := h
    rw [Bool.and_eq_true, Nat.add_sub_cancel' hle] at h
    exact h.2
  · intro h
    have hbn : b < n := by
      by_contra hge
      have : B.getLsbD b = false := Nat.testBit_lt_two_pow (lt_of_lt_of_le hB (Nat.pow_le_pow_right two_pos (not_lt.1 hge)))
      simp [this] at h
    obtain ⟨r, hr, hlo, hhi⟩ := hcov b hbn
    obtain ⟨g, hg, rfl⟩ := List.mem_map.1 hr
    simp only [Segment.range] at hlo hhi
    refine ⟨g, hg, ?_⟩
    rw [hval g hg, getLsbD_place_iff, getLsbD_field, Nat.add_sub_cancel' hlo, h]
    exact ⟨hb, hlo, by simp; omega⟩

/-! ## Split fields -/

/-- Where a part lies in the block. -/
def Part.range (p : Part) : Nat × Nat := (p.off, p.w)

/-- Which bits of the field a part holds. -/
def Part.slot (p : Part) : Nat × Nat := (p.sh, p.w)

/-- The ranges are `n` bits cut into pieces. -/
abbrev Tiles (n : Nat) (rs : List (Nat × Nat)) : Prop := Separate n rs ∧ Covering n rs

/-- A field's segments in the block, one for each of its parts (rule R103). -/
def segmentsOf {W : Nat} (F : BitVec W) (ps : List Part) : List Segment :=
  ps.map fun p => ⟨p.off, p.w, F.extractLsb' p.sh p.w⟩

theorem scatter_eq_assemble {W : Nat} (F : BitVec W) (ps : List Part) : scatter F ps = assemble (segmentsOf F ps) := by
  induction ps with
  | nil => rfl
  | cons p ps ih => rw [scatter, ih]; rfl

theorem map_range_segmentsOf {W : Nat} (F : BitVec W) (ps : List Part) :
    (segmentsOf F ps).map Segment.range = ps.map Part.range := by
  simp [segmentsOf, Function.comp_def, Segment.range, Part.range]

theorem getLsbD_gather (W : Nat) (B : BitVec 128) (ps : List Part) (i : Nat) :
    (gather W B ps).getLsbD i = true ↔ i < W ∧ ∃ p ∈ ps, p.sh ≤ i ∧ (field B p.off p.w).getLsbD (i - p.sh) = true := by
  induction ps with
  | nil => simp [gather]
  | cons p ps ih =>
    rw [gather, BitVec.getLsbD_or, Bool.or_eq_true, ih]
    simp only [BitVec.getLsbD_shiftLeft, BitVec.getLsbD_setWidth, List.exists_mem_cons_iff, Bool.and_eq_true,
      Bool.not_eq_true', decide_eq_true_eq, decide_eq_false_iff_not, not_lt]
    constructor
    · rintro (⟨⟨hW, hsh⟩, -, h⟩ | ⟨hW, h⟩)
      · exact ⟨hW, .inl ⟨hsh, h⟩⟩
      · exact ⟨hW, .inr h⟩
    · rintro ⟨hW, ⟨hsh, h⟩ | h⟩
      · exact .inl ⟨⟨hW, hsh⟩, by omega, h⟩
      · exact .inr ⟨hW, h⟩

/-- A field of one part is read directly. -/
theorem gather_single (B : BitVec 128) (off w : Nat) : gather w B [⟨off, w, 0⟩] = field B off w := by
  simp [gather]

/-- Reassembly gives the field back where every part is in place (rule R144). -/
theorem gather_of_parts {W : Nat} {F : BitVec W} {B : BitVec 128} {ps : List Part}
    (hcov : Covering W (ps.map Part.slot)) (h : ∀ p ∈ ps, field B p.off p.w = F.extractLsb' p.sh p.w) :
    gather W B ps = F := by
  refine BitVec.eq_of_getLsbD_eq fun i hi => ?_
  rw [Bool.eq_iff_iff, getLsbD_gather]
  constructor
  · rintro ⟨-, p, hp, hsh, hbit⟩
    rw [h p hp, BitVec.getLsbD_extractLsb', Bool.and_eq_true, Nat.add_sub_cancel' hsh] at hbit
    exact hbit.2
  · intro hbit
    obtain ⟨r, hr, hlo, hhi⟩ := hcov i hi
    obtain ⟨p, hp, rfl⟩ := List.mem_map.1 hr
    simp only [Part.slot] at hlo hhi
    refine ⟨hi, p, hp, hlo, ?_⟩
    rw [h p hp, BitVec.getLsbD_extractLsb', Nat.add_sub_cancel' hlo, hbit]
    simp; omega

/-- The inverse (rule R154): a part of the reassembled field is what the block holds there. -/
theorem extractLsb'_gather {W : Nat} {B : BitVec 128} {ps : List Part} (hsep : Separate W (ps.map Part.slot)) {p : Part}
    (hp : p ∈ ps) : (gather W B ps).extractLsb' p.sh p.w = field B p.off p.w := by
  have hin : p.sh + p.w ≤ W := hsep.2 _ (List.mem_map_of_mem hp)
  refine BitVec.eq_of_getLsbD_eq fun i hi => ?_
  rw [BitVec.getLsbD_extractLsb', decide_eq_true hi, Bool.true_and, Bool.eq_iff_iff, getLsbD_gather]
  refine ⟨?_, fun h => ⟨by omega, p, hp, by omega, by rwa [Nat.add_sub_cancel_left]⟩⟩
  rintro ⟨-, p', hp', hsh, hbit⟩
  by_cases he : p' = p
  · rwa [he, Nat.add_sub_cancel_left] at hbit
  · have hap : Apart p'.slot p.slot :=
      haveI : Std.Symm fun a b : Part => Apart a.slot b.slot := ⟨fun _ _ h => h.symm⟩
      (List.pairwise_map.1 hsep.1).forall hp' hp he
    have := BitVec.lt_of_getLsbD hbit
    simp only [Apart, Part.slot] at hap
    omega

/-! ## Layouts -/

/-- A field of an instruction with the parts that hold it. -/
structure SplitField where
  W     : Nat
  val   : BitVec W
  parts : List Part

/-- What a field's place depends on. -/
def SplitField.shape (f : SplitField) : Nat × List Part := (f.W, f.parts)

/-- A field of consecutive bits (rule R101). -/
def SplitField.single (off : Nat) {w : Nat} (x : BitVec w) : SplitField := ⟨w, x, [⟨off, w, 0⟩]⟩

/-- The block with these fields. -/
def build (fs : List SplitField) : BitVec 128 := fs.foldr (fun f B => scatter f.val f.parts ||| B) 0

/-- A block layout of `n` bits: its parts cut the block into pieces, and each field's parts cut the field into pieces. -/
abbrev Layout (n : Nat) (shapes : List (Nat × List Part)) : Prop :=
  Tiles n (shapes.flatMap fun q => q.2.map Part.range) ∧ ∀ q ∈ shapes, Tiles q.1 (q.2.map Part.slot)

@[simp] theorem build_nil : build [] = 0 := rfl

@[simp] theorem build_cons (f : SplitField) (fs : List SplitField) : build (f :: fs) = scatter f.val f.parts ||| build fs := rfl

@[simp] theorem build_append (fs gs : List SplitField) : build (fs ++ gs) = build fs ||| build gs := by
  induction fs with
  | nil => simp
  | cons f fs ih => simp [ih, BitVec.or_assoc]

@[simp] theorem scatter_single (off : Nat) {w : Nat} (x : BitVec w) :
    scatter (SplitField.single off x).val (SplitField.single off x).parts = place off x := by
  simp [SplitField.single, scatter]

theorem build_eq_assemble (fs : List SplitField) : build fs = assemble (fs.flatMap fun f => segmentsOf f.val f.parts) := by
  induction fs with
  | nil => rfl
  | cons f fs ih => rw [build_cons, ih, List.flatMap_cons, assemble_append, scatter_eq_assemble]

theorem map_range_flatMap_segmentsOf (fs : List SplitField) :
    (fs.flatMap fun f => segmentsOf f.val f.parts).map Segment.range
      = (fs.map SplitField.shape).flatMap fun q => q.2.map Part.range := by
  rw [List.map_flatMap, List.flatMap_map]
  exact congrArg (List.flatMap · fs) (funext fun f => map_range_segmentsOf f.val f.parts)

theorem Separate.mono {m n : Nat} (h : m ≤ n) {rs : List (Nat × Nat)} (hs : Separate m rs) : Separate n rs :=
  ⟨hs.1, fun r hr => le_trans (hs.2 r hr) h⟩

/-- Decoding what was encoded: every field of a built block is read back. -/
theorem gather_build {n : Nat} {fs : List SplitField} (hn : n ≤ 128) (hL : Layout n (fs.map SplitField.shape)) :
    ∀ f ∈ fs, gather f.W (build fs) f.parts = f.val := by
  intro f hf
  have hsep : Separate 128 ((fs.flatMap fun f => segmentsOf f.val f.parts).map Segment.range) := by
    rw [map_range_flatMap_segmentsOf]
    exact hL.1.1.mono hn
  refine gather_of_parts (hL.2 _ (List.mem_map_of_mem hf)).2 fun p hp => ?_
  rw [build_eq_assemble]
  exact field_assemble (g := ⟨p.off, p.w, f.val.extractLsb' p.sh p.w⟩) hsep
    (List.mem_flatMap.2 ⟨f, hf, List.mem_map.2 ⟨p, hp, rfl⟩⟩)

/-- A layout of `n` bits sets none above them. -/
theorem toNat_build_lt {n : Nat} {fs : List SplitField} (hL : Layout n (fs.map SplitField.shape)) :
    (build fs).toNat < 2 ^ n := by
  refine Nat.lt_pow_two_of_testBit _ fun b hb => ?_
  by_contra h
  rw [Bool.not_eq_false, BitVec.testBit_toNat, build_eq_assemble, getLsbD_assemble] at h
  obtain ⟨g, hg, hbit⟩ := h
  have hmem := List.mem_map_of_mem (f := Segment.range) hg
  rw [map_range_flatMap_segmentsOf] at hmem
  have := hL.1.1.2 _ hmem
  have := lt_of_getLsbD_place hbit
  simp only [Segment.range] at *
  omega

/-- Encoding what was decoded: a block is built from the fields it holds. -/
theorem build_gather {n : Nat} {fs : List SplitField} {B : BitVec 128} (hL : Layout n (fs.map SplitField.shape))
    (hB : B.toNat < 2 ^ n) (h : ∀ f ∈ fs, f.val = gather f.W B f.parts) : build fs = B := by
  rw [build_eq_assemble]
  refine assemble_fields hB ?_ fun g hg => ?_
  · rw [map_range_flatMap_segmentsOf]
    exact hL.1.2
  · obtain ⟨f, hf, hg⟩ := List.mem_flatMap.1 hg
    obtain ⟨p, hp, rfl⟩ := List.mem_map.1 hg
    rw [h f hf]
    exact extractLsb'_gather (hL.2 _ (List.mem_map_of_mem hf)).1 hp

/-! ## Bytes -/

theorem leNat_bytesOfBlock (n : Nat) : ∀ B : BitVec 128, leNat (bytesOfBlock n B) = B.toNat % 256 ^ n := by
  induction n with
  | zero => intro B; simp [bytesOfBlock, leNat, Nat.mod_one]
  | succ n ih =>
    intro B
    have hpow : 256 ^ (n + 1) = 256 * 256 ^ n := pow_succ' 256 n
    rw [bytesOfBlock, leNat, ih, BitVec.toNat_setWidth, BitVec.toNat_ushiftRight, Nat.shiftRight_eq_div_pow, hpow,
      Nat.mod_mul]

/-- Bytes hold the block they were taken from (rule R7). -/
theorem blockOfBytes_bytesOfBlock {n : Nat} {B : BitVec 128} (h : B.toNat < 2 ^ (8 * n)) :
    blockOfBytes (bytesOfBlock n B) = B := by
  rw [blockOfBytes, leNat_bytesOfBlock, Nat.mod_eq_of_lt (by rwa [pow_mul] at h), BitVec.ofNat_toNat, BitVec.setWidth_eq]

theorem bytesOfBlock_of_toNat : ∀ (bs : List Byte) (B : BitVec 128), B.toNat = leNat bs → bytesOfBlock bs.length B = bs
  | [], _, _ => rfl
  | b :: bs, B, h => by
    have hb := b.isLt
    rw [leNat] at h
    have hhead : B.setWidth 8 = b := BitVec.eq_of_toNat_eq (by rw [BitVec.toNat_setWidth]; omega)
    have htail : (B >>> 8).toNat = leNat bs := by
      rw [BitVec.toNat_ushiftRight, Nat.shiftRight_eq_div_pow]
      omega
    rw [List.length_cons, bytesOfBlock, hhead, bytesOfBlock_of_toNat bs _ htail]

theorem toNat_blockOfBytes {bs : List Byte} (h : bs.length ≤ 16) : (blockOfBytes bs).toNat = leNat bs := by
  have hlt : leNat bs < 256 ^ 16 := lt_of_lt_of_le (Machine.leNat_lt bs) (Nat.pow_le_pow_right (by decide) h)
  rw [blockOfBytes, BitVec.toNat_ofNat, Nat.mod_eq_of_lt (by simpa using hlt)]

theorem toNat_blockOfBytes_lt {bs : List Byte} (h : bs.length ≤ 16) : (blockOfBytes bs).toNat < 2 ^ (8 * bs.length) := by
  rw [toNat_blockOfBytes h, pow_mul]
  exact Machine.leNat_lt bs

/-- A block holds the bytes it was read from (rule R7). -/
theorem bytesOfBlock_blockOfBytes {bs : List Byte} (h : bs.length ≤ 16) : bytesOfBlock bs.length (blockOfBytes bs) = bs :=
  bytesOfBlock_of_toNat bs _ (toNat_blockOfBytes h)

theorem nblk_le (fmt : Format) : fmt.nblk ≤ 16 := by cases fmt <;> decide

theorem decodeBlock_of_length {tag : Nibble} {fmt : Format} {bytes : List Byte} (ht : Format.ofTag tag = some fmt)
    (hl : bytes.length = fmt.nblk) : decodeBlock tag bytes = .ok (decodeBits fmt (blockOfBytes bytes)) := by
  simp only [decodeBlock, ht, if_pos hl]

theorem encode_of_encodeBits {i : Instr} {n : Nat} {B : BitVec 128} (h : encodeBits i = some (n, B)) :
    encode i = bytesOfBlock n B := by
  simp only [encode, h]

/-- The bytes of an instruction decode to the block they were made of (rules R7, R107). -/
theorem decodeBlock_encode {tag : Nibble} {fmt : Format} {i : Instr} {B : BitVec 128} (ht : Format.ofTag tag = some fmt)
    (he : encodeBits i = some (fmt.nblk, B)) (hB : B.toNat < 2 ^ (8 * fmt.nblk)) :
    decodeBlock tag (encode i) = .ok (decodeBits fmt B) := by
  rw [encode_of_encodeBits he, decodeBlock_of_length ht (Laws.EncodeLength.bytesOfBlock_length _ _),
    blockOfBytes_bytesOfBlock hB]

end Sys2Proof
end

section
/-!
The fields of every block kind (spec/30_encoding.md sections 2 to 4, spec/42_bc6h.md section 2, spec/43_bc7.md section 2):
one list of fields for a kind, its mode code among them. The block is built from the list, the list is laid out without gap or
overlap, and a block decodes to a kind exactly when it holds the kind's fields; the round trips follow for all kinds alike.
-/
namespace Sys2Proof.Machine

/-- Every field of the list is what the block has at its place. -/
def Holds (B : BitVec 128) (fs : List SplitField) : Prop := ∀ f ∈ fs, gather f.W B f.parts = f.val

@[simp] theorem holds_nil (B : BitVec 128) : Holds B [] := by simp [Holds]

@[simp] theorem holds_cons {B : BitVec 128} {f : SplitField} {fs : List SplitField} :
    Holds B (f :: fs) ↔ gather f.W B f.parts = f.val ∧ Holds B fs := by simp [Holds]

@[simp] theorem holds_append {B : BitVec 128} {fs gs : List SplitField} : Holds B (fs ++ gs) ↔ Holds B fs ∧ Holds B gs := by
  simp [Holds, or_imp, forall_and]

@[simp] theorem gather_of_single {B : BitVec 128} {off w : Nat} {x : BitVec w} :
    gather (SplitField.single off x).W B (SplitField.single off x).parts = (SplitField.single off x).val
      ↔ field B off w = x := by
  simp only [SplitField.single, gather_single]

@[simp] theorem shape_single {off w : Nat} (x : BitVec w) : (SplitField.single off x).shape = (w, [⟨off, w, 0⟩]) := rfl

/-! ## BC6H -/

/-- The mode code of a BC6H kind (rule R97): 2 bits for modes 1 and 2, else 5. -/
def bc6hPrefix : Bc6hKind → SplitField
  | .m1 => .single 0 0b00#2
  | .m2 => .single 0 0b01#2
  | .m3 => .single 0 0b00010#5
  | .m4 => .single 0 0b00110#5
  | .m5 => .single 0 0b01010#5
  | .m6 => .single 0 0b01110#5
  | .m7 => .single 0 0b10010#5
  | .m8 => .single 0 0b10110#5
  | .m9 => .single 0 0b11010#5
  | .m10 => .single 0 0b11110#5
  | .m11 => .single 0 0b00011#5
  | .m12 => .single 0 0b00111#5
  | .m13 => .single 0 0b01011#5
  | .m14 => .single 0 0b01111#5
  | .rsvd13 => .single 0 0b10011#5
  | .rsvd17 => .single 0 0b10111#5
  | .rsvd1B => .single 0 0b11011#5
  | .rsvd1F => .single 0 0b11111#5

theorem field_low (B : BitVec 128) {k n : Nat} (h : k ≤ n) : field B 0 k = (field B 0 n).setWidth k := by
  refine BitVec.eq_of_getLsbD_eq fun i hi => ?_
  rw [BitVec.getLsbD_setWidth, getLsbD_field, getLsbD_field, decide_eq_true (show i < n by omega), Bool.true_and]

/-- A block is of a BC6H kind exactly when it has the kind's mode code: the mode codes exclude each other. -/
theorem bc6hKind_eq_iff {B : BitVec 128} {k : Bc6hKind} :
    bc6hKind (field B 0 5) = k ↔ gather (bc6hPrefix k).W B (bc6hPrefix k).parts = (bc6hPrefix k).val := by
  cases k <;> simp only [bc6hPrefix, gather_of_single, field_low B (show 2 ≤ 5 by decide)] <;>
    generalize field B 0 5 = p <;> revert p <;> decide

/-- The fields of a two-subset block after its mode code. -/
def bc6hTwoFields (L : Bc6hTwoLayout) {w x y z : Nat} (f : Bc6hTwo w x y z) : List SplitField :=
  [⟨w, f.rW, L.rW⟩, ⟨w, f.gW, L.gW⟩, ⟨w, f.bW, L.bW⟩, ⟨x, f.rX, L.rX⟩, ⟨y, f.gX, L.gX⟩, ⟨z, f.bX, L.bX⟩,
    ⟨x, f.rY, L.rY⟩, ⟨y, f.gY, L.gY⟩, ⟨z, f.bY, L.bY⟩, ⟨x, f.rZ, L.rZ⟩, ⟨y, f.gZ, L.gZ⟩, ⟨z, f.bZ, L.bZ⟩,
    .single 77 f.d, .single 82 f.idx]

/-- The fields of a one-subset block after its mode code. -/
def bc6hOneFields (L : Bc6hOneLayout) {w x : Nat} (f : Bc6hOne w x) : List SplitField :=
  [⟨w, f.rW, L.rW⟩, ⟨w, f.gW, L.gW⟩, ⟨w, f.bW, L.bW⟩, ⟨x, f.rX, L.rX⟩, ⟨x, f.gX, L.gX⟩, ⟨x, f.bX, L.bX⟩,
    .single 65 f.idx]

theorem holds_bc6hTwoFields {B : BitVec 128} {L : Bc6hTwoLayout} {w x y z : Nat} {f : Bc6hTwo w x y z} :
    Holds B (bc6hTwoFields L f) ↔ bc6hTwoOfBlock L B = f := by
  obtain ⟨⟩ := f
  simp only [bc6hTwoFields, holds_cons, gather_of_single, holds_nil, and_true, bc6hTwoOfBlock, Bc6hTwo.mk.injEq]

theorem holds_bc6hOneFields {B : BitVec 128} {L : Bc6hOneLayout} {w x : Nat} {f : Bc6hOne w x} :
    Holds B (bc6hOneFields L f) ↔ bc6hOneOfBlock L B = f := by
  obtain ⟨⟩ := f
  simp only [bc6hOneFields, holds_cons, gather_of_single, holds_nil, and_true, bc6hOneOfBlock, Bc6hOne.mk.injEq]

theorem build_bc6hTwoFields (L : Bc6hTwoLayout) {w x y z : Nat} (f : Bc6hTwo w x y z) (k : Bc6hKind) :
    build (bc6hPrefix k :: bc6hTwoFields L f) = bc6hTwoBlock L (scatter (bc6hPrefix k).val (bc6hPrefix k).parts) f := by
  simp only [bc6hTwoFields, build_cons, build_nil, scatter_single, bc6hTwoBlock, BitVec.or_assoc,
    BitVec.ofNat_eq_ofNat, BitVec.or_zero]

theorem build_bc6hOneFields (L : Bc6hOneLayout) {w x : Nat} (f : Bc6hOne w x) (k : Bc6hKind) :
    build (bc6hPrefix k :: bc6hOneFields L f) = bc6hOneBlock L (scatter (bc6hPrefix k).val (bc6hPrefix k).parts) f := by
  simp only [bc6hOneFields, build_cons, build_nil, scatter_single, bc6hOneBlock, BitVec.or_assoc,
    BitVec.ofNat_eq_ofNat, BitVec.or_zero]

/-! ## BC7 -/

/-- The fields of equal width that follow each other from `off` on (rule R101). -/
def vecFields (off : Nat) {w : Nat} : List (BitVec w) → List SplitField
  | [] => []
  | x :: xs => .single off x :: vecFields (off + w) xs

/-- Their shapes. -/
def vecShapes (off w : Nat) : Nat → List (Nat × List Part)
  | 0 => []
  | n + 1 => (w, [⟨off, w, 0⟩]) :: vecShapes (off + w) w n

theorem map_shape_vecFields {w : Nat} : ∀ (off : Nat) (xs : List (BitVec w)),
    (vecFields off xs).map SplitField.shape = vecShapes off w xs.length
  | _, [] => rfl
  | off, x :: xs => by simp [vecFields, vecShapes, map_shape_vecFields]

theorem build_vecFields {w : Nat} : ∀ (off : Nat) (xs : List (BitVec w)), build (vecFields off xs) = placeList off xs
  | _, [] => rfl
  | off, x :: xs => by rw [vecFields, build_cons, scatter_single, build_vecFields, placeList]

theorem holds_vecFields_list {B : BitVec 128} {w : Nat} : ∀ {off : Nat} {xs : List (BitVec w)},
    Holds B (vecFields off xs) ↔ ∀ (e : Nat) (h : e < xs.length), field B (off + e * w) w = xs[e]
  | _, [] => by simp [vecFields]
  | off, x :: xs => by
    have hoff : ∀ e, off + w + e * w = off + (e + 1) * w := fun e => by ring
    simp only [vecFields, holds_cons, gather_of_single, holds_vecFields_list, hoff]
    constructor
    · rintro ⟨h0, h⟩ (_ | e) he
      · simpa using h0
      · exact h e (by simpa using he)
    · exact fun h => ⟨by simpa only [Nat.zero_mul, Nat.add_zero, List.getElem_cons_zero] using h 0 (Nat.succ_pos _), fun e he => h (e + 1) (by simpa using he)⟩

theorem holds_vecFields {B : BitVec 128} {off w n : Nat} {v : Vector (BitVec w) n} :
    Holds B (vecFields off v.toList) ↔ fieldVec B off w n = v := by
  rw [holds_vecFields_list, fieldVec, Vector.ext_iff]
  simp

/-- The mode code of a BC7 kind (rule R99): one set bit above `m` zeros, or a byte of zeros. -/
def bc7Prefix : Bc7Kind → SplitField
  | .m0 => .single 0 0b1#1
  | .m1 => .single 0 0b10#2
  | .m2 => .single 0 0b100#3
  | .m3 => .single 0 0b1000#4
  | .m4 => .single 0 0b10000#5
  | .m5 => .single 0 0b100000#6
  | .m6 => .single 0 0b1000000#7
  | .m7 => .single 0 0b10000000#8
  | .rsvd => .single 0 0#8

/-- A block is of a BC7 kind exactly when it has the kind's mode code. -/
theorem bc7Kind_eq_iff {B : BitVec 128} {k : Bc7Kind} :
    bc7Kind (field B 0 8) = k ↔ gather (bc7Prefix k).W B (bc7Prefix k).parts = (bc7Prefix k).val := by
  have hlow : ∀ k ≤ 8, field B 0 k = (field B 0 8).setWidth k := fun k hk => field_low B hk
  cases k <;> simp (disch := decide) only [bc7Prefix, gather_of_single, hlow 1, hlow 2, hlow 3, hlow 4, hlow 5, hlow 6,
      hlow 7] <;>
    generalize field B 0 8 = p <;> revert p <;> decide

/-- The fields of a BC7 block after its mode code, in the order of rule R101. -/
def bc7FieldList (m : Nat) {part rot isel ne col alpha np ix ix2 : Nat} (f : Bc7Fields part rot isel ne col alpha np ix ix2) :
    List SplitField :=
  [.single (m + 1) f.part, .single (m + 1 + part) f.rot, .single (m + 1 + part + rot) f.isel]
    ++ vecFields (m + 1 + part + rot + isel) f.r.toList
    ++ vecFields (m + 1 + part + rot + isel + ne * col) f.g.toList
    ++ vecFields (m + 1 + part + rot + isel + 2 * (ne * col)) f.b.toList
    ++ vecFields (m + 1 + part + rot + isel + 3 * (ne * col)) f.a.toList
    ++ vecFields (m + 1 + part + rot + isel + 3 * (ne * col) + ne * alpha) f.p.toList
    ++ [.single (m + 1 + part + rot + isel + 3 * (ne * col) + ne * alpha + np) f.idx,
      .single (m + 1 + part + rot + isel + 3 * (ne * col) + ne * alpha + np + ix) f.idx2]

/-- Their shapes: they follow each other without gaps (rule R101). -/
def bc7Shapes (m part rot isel ne col alpha np ix ix2 : Nat) : List (Nat × List Part) :=
  [(part, [⟨m + 1, part, 0⟩]), (rot, [⟨m + 1 + part, rot, 0⟩]), (isel, [⟨m + 1 + part + rot, isel, 0⟩])]
    ++ vecShapes (m + 1 + part + rot + isel) col ne
    ++ vecShapes (m + 1 + part + rot + isel + ne * col) col ne
    ++ vecShapes (m + 1 + part + rot + isel + 2 * (ne * col)) col ne
    ++ vecShapes (m + 1 + part + rot + isel + 3 * (ne * col)) alpha ne
    ++ vecShapes (m + 1 + part + rot + isel + 3 * (ne * col) + ne * alpha) 1 np
    ++ [(ix, [⟨m + 1 + part + rot + isel + 3 * (ne * col) + ne * alpha + np, ix, 0⟩]),
      (ix2, [⟨m + 1 + part + rot + isel + 3 * (ne * col) + ne * alpha + np + ix, ix2, 0⟩])]

theorem map_shape_bc7FieldList (m : Nat) {part rot isel ne col alpha np ix ix2 : Nat}
    (f : Bc7Fields part rot isel ne col alpha np ix ix2) :
    (bc7FieldList m f).map SplitField.shape = bc7Shapes m part rot isel ne col alpha np ix ix2 := by
  simp only [bc7FieldList, bc7Shapes, List.map_append, List.map_cons, List.map_nil, shape_single, map_shape_vecFields,
    Vector.length_toList]

theorem holds_bc7FieldList {B : BitVec 128} {m part rot isel ne col alpha np ix ix2 : Nat}
    {f : Bc7Fields part rot isel ne col alpha np ix ix2} : Holds B (bc7FieldList m f) ↔ bc7OfBlock m B = f := by
  obtain ⟨⟩ := f
  simp only [bc7FieldList, holds_append, holds_cons, gather_of_single, holds_vecFields, holds_nil, and_true, bc7OfBlock,
    Bc7Fields.mk.injEq, and_assoc]

theorem build_bc7FieldList (m : Nat) {part rot isel ne col alpha np ix ix2 : Nat}
    (f : Bc7Fields part rot isel ne col alpha np ix ix2) (k : Bc7Kind)
    (hk : scatter (bc7Prefix k).val (bc7Prefix k).parts = place m (1 : BitVec 1)) :
    build (bc7Prefix k :: bc7FieldList m f) = bc7Block m f := by
  simp only [bc7FieldList, build_cons, build_append, build_vecFields, build_nil, scatter_single, hk, bc7Block,
    BitVec.or_assoc, BitVec.ofNat_eq_ofNat, BitVec.or_zero]

/-! ## Every kind -/

/-- The fields of a block kind, its mode code first; none for a command. -/
def fieldsOf : Instr → List SplitField
  | .bc1 c0 c1 idx => [.single 0 c0, .single 16 c1, .single 32 idx]
  | .bc2 abm c0 c1 idx => [.single 0 abm, .single 64 c0, .single 80 c1, .single 96 idx]
  | .bc3 a0 a1 aidx c0 c1 idx =>
    [.single 0 a0, .single 8 a1, .single 16 aidx, .single 64 c0, .single 80 c1, .single 96 idx]
  | .bc4u e0 e1 idx | .bc4s e0 e1 idx => [.single 0 e0, .single 8 e1, .single 16 idx]
  | .bc5u ue0 ue1 uidx ve0 ve1 vidx | .bc5s ue0 ue1 uidx ve0 ve1 vidx =>
    [.single 0 ue0, .single 8 ue1, .single 16 uidx, .single 64 ve0, .single 72 ve1, .single 80 vidx]
  | .bc6hM1 f => bc6hPrefix .m1 :: bc6hTwoFields bc6hM1Layout f
  | .bc6hM2 f => bc6hPrefix .m2 :: bc6hTwoFields bc6hM2Layout f
  | .bc6hM3 f => bc6hPrefix .m3 :: bc6hTwoFields bc6hM3Layout f
  | .bc6hM4 f => bc6hPrefix .m4 :: bc6hTwoFields bc6hM4Layout f
  | .bc6hM5 f => bc6hPrefix .m5 :: bc6hTwoFields bc6hM5Layout f
  | .bc6hM6 f => bc6hPrefix .m6 :: bc6hTwoFields bc6hM6Layout f
  | .bc6hM7 f => bc6hPrefix .m7 :: bc6hTwoFields bc6hM7Layout f
  | .bc6hM8 f => bc6hPrefix .m8 :: bc6hTwoFields bc6hM8Layout f
  | .bc6hM9 f => bc6hPrefix .m9 :: bc6hTwoFields bc6hM9Layout f
  | .bc6hM10 f => bc6hPrefix .m10 :: bc6hTwoFields bc6hM10Layout f
  | .bc6hM11 f => bc6hPrefix .m11 :: bc6hOneFields bc6hM11Layout f
  | .bc6hM12 f => bc6hPrefix .m12 :: bc6hOneFields bc6hM12Layout f
  | .bc6hM13 f => bc6hPrefix .m13 :: bc6hOneFields bc6hM13Layout f
  | .bc6hM14 f => bc6hPrefix .m14 :: bc6hOneFields bc6hM14Layout f
  | .bc6hRsvd13 rest => [bc6hPrefix .rsvd13, .single 5 rest]
  | .bc6hRsvd17 rest => [bc6hPrefix .rsvd17, .single 5 rest]
  | .bc6hRsvd1B rest => [bc6hPrefix .rsvd1B, .single 5 rest]
  | .bc6hRsvd1F rest => [bc6hPrefix .rsvd1F, .single 5 rest]
  | .bc7M0 f => bc7Prefix .m0 :: bc7FieldList 0 f
  | .bc7M1 f => bc7Prefix .m1 :: bc7FieldList 1 f
  | .bc7M2 f => bc7Prefix .m2 :: bc7FieldList 2 f
  | .bc7M3 f => bc7Prefix .m3 :: bc7FieldList 3 f
  | .bc7M4 f => bc7Prefix .m4 :: bc7FieldList 4 f
  | .bc7M5 f => bc7Prefix .m5 :: bc7FieldList 5 f
  | .bc7M6 f => bc7Prefix .m6 :: bc7FieldList 6 f
  | .bc7M7 f => bc7Prefix .m7 :: bc7FieldList 7 f
  | .bc7Rsvd rest => [bc7Prefix .rsvd, .single 8 rest]
  | .classify | .decode | .stats | .extract | .sext | .fixup | .isfix | .cmdIllegal0 | .cmdIllegal8to15 _ => []

/-- A tag in a list of one format's tag is that format's. -/
theorem format_eq_of_tag_mem {fmt fmt' : Format} (h : fmt.tag ∈ [fmt'.tag]) : fmt = fmt' := by
  revert h
  cases fmt <;> cases fmt' <;> decide

/-- Under both BC6H tags the block is read by the BC6H layouts (rule R180). -/
theorem decodeBits_bc6h {fmt : Format} (h : fmt.tag ∈ [Format.bc6hu.tag, Format.bc6hs.tag]) (B : BitVec 128) :
    fmt.nblk = 16 ∧ decodeBits fmt B = decodeBc6h B := by
  have hfmt : fmt = .bc6hu ∨ fmt = .bc6hs := by
    revert h
    cases fmt <;> decide
  rcases hfmt with rfl | rfl <;> exact ⟨rfl, rfl⟩

theorem ofTag_tag (fmt : Format) : Format.ofTag fmt.tag = some fmt := by cases fmt <;> rfl

/-- A block that holds a mode code is of its kind. -/
theorem decodeBc6h_of_holds {B : BitVec 128} {k : Bc6hKind} {fs : List SplitField} (h : Holds B (bc6hPrefix k :: fs)) :
    bc6hKind (field B 0 5) = k ∧ Holds B fs :=
  ⟨bc6hKind_eq_iff.2 (holds_cons.1 h).1, (holds_cons.1 h).2⟩

theorem decodeBc7_of_holds {B : BitVec 128} {k : Bc7Kind} {fs : List SplitField} (h : Holds B (bc7Prefix k :: fs)) :
    bc7Kind (field B 0 8) = k ∧ Holds B fs :=
  ⟨bc7Kind_eq_iff.2 (holds_cons.1 h).1, (holds_cons.1 h).2⟩

end Sys2Proof.Machine
end

section
/-!
The round trips between bytes and instructions (spec/30_encoding.md rules R90 and R107, spec/40_extract_fixup.md rules R144
and R154).
-/
namespace Sys2Proof.Machine

variable {fmt : Format} {B : BitVec 128}

/-! ## The three facts about every kind -/

/-- A block kind is encoded as the block of its fields. -/
theorem encodeBits_eq_build {i : Instr} (h : fmt.tag ∈ tagsOf i) : encodeBits i = some (fmt.nblk, build (fieldsOf i)) := by
  have hplain : ∀ {n : Nat} {C : BitVec 128}, fmt.nblk = n → build (fieldsOf i) = C →
      some (n, C) = some (fmt.nblk, build (fieldsOf i)) := by
    rintro _ _ rfl rfl
    rfl
  have hbc6h : ∀ {C : BitVec 128}, fmt.tag ∈ [Format.bc6hu.tag, Format.bc6hs.tag] → build (fieldsOf i) = C →
      some (16, C) = some (fmt.nblk, build (fieldsOf i)) := fun h6 hC => hplain (decodeBits_bc6h h6 0).1 hC
  cases i with
  | bc1 c0 c1 idx =>
    obtain rfl := format_eq_of_tag_mem (fmt' := .bc1) h
    exact hplain rfl (by simp [fieldsOf, BitVec.or_assoc])
  | bc2 abm c0 c1 idx =>
    obtain rfl := format_eq_of_tag_mem (fmt' := .bc2) h
    exact hplain rfl (by simp [fieldsOf, BitVec.or_assoc])
  | bc3 a0 a1 aidx c0 c1 idx =>
    obtain rfl := format_eq_of_tag_mem (fmt' := .bc3) h
    exact hplain rfl (by simp [fieldsOf, BitVec.or_assoc])
  | bc4u e0 e1 idx =>
    obtain rfl := format_eq_of_tag_mem (fmt' := .bc4u) h
    exact hplain rfl (by simp [fieldsOf, BitVec.or_assoc])
  | bc4s e0 e1 idx =>
    obtain rfl := format_eq_of_tag_mem (fmt' := .bc4s) h
    exact hplain rfl (by simp [fieldsOf, BitVec.or_assoc])
  | bc5u ue0 ue1 uidx ve0 ve1 vidx =>
    obtain rfl := format_eq_of_tag_mem (fmt' := .bc5u) h
    exact hplain rfl (by simp [fieldsOf, BitVec.or_assoc])
  | bc5s ue0 ue1 uidx ve0 ve1 vidx =>
    obtain rfl := format_eq_of_tag_mem (fmt' := .bc5s) h
    exact hplain rfl (by simp [fieldsOf, BitVec.or_assoc])
  | bc6hM1 f => exact hbc6h h (build_bc6hTwoFields _ f .m1)
  | bc6hM2 f => exact hbc6h h (build_bc6hTwoFields _ f .m2)
  | bc6hM3 f => exact hbc6h h (build_bc6hTwoFields _ f .m3)
  | bc6hM4 f => exact hbc6h h (build_bc6hTwoFields _ f .m4)
  | bc6hM5 f => exact hbc6h h (build_bc6hTwoFields _ f .m5)
  | bc6hM6 f => exact hbc6h h (build_bc6hTwoFields _ f .m6)
  | bc6hM7 f => exact hbc6h h (build_bc6hTwoFields _ f .m7)
  | bc6hM8 f => exact hbc6h h (build_bc6hTwoFields _ f .m8)
  | bc6hM9 f => exact hbc6h h (build_bc6hTwoFields _ f .m9)
  | bc6hM10 f => exact hbc6h h (build_bc6hTwoFields _ f .m10)
  | bc6hM11 f => exact hbc6h h (build_bc6hOneFields _ f .m11)
  | bc6hM12 f => exact hbc6h h (build_bc6hOneFields _ f .m12)
  | bc6hM13 f => exact hbc6h h (build_bc6hOneFields _ f .m13)
  | bc6hM14 f => exact hbc6h h (build_bc6hOneFields _ f .m14)
  | bc6hRsvd13 rest => exact hbc6h h (by simp [fieldsOf, bc6hPrefix, place])
  | bc6hRsvd17 rest => exact hbc6h h (by simp [fieldsOf, bc6hPrefix, place])
  | bc6hRsvd1B rest => exact hbc6h h (by simp [fieldsOf, bc6hPrefix, place])
  | bc6hRsvd1F rest => exact hbc6h h (by simp [fieldsOf, bc6hPrefix, place])
  | bc7M0 f => exact hplain (congrArg _ (format_eq_of_tag_mem (fmt' := .bc7) h)) (build_bc7FieldList 0 f .m0 (by decide))
  | bc7M1 f => exact hplain (congrArg _ (format_eq_of_tag_mem (fmt' := .bc7) h)) (build_bc7FieldList 1 f .m1 (by decide))
  | bc7M2 f => exact hplain (congrArg _ (format_eq_of_tag_mem (fmt' := .bc7) h)) (build_bc7FieldList 2 f .m2 (by decide))
  | bc7M3 f => exact hplain (congrArg _ (format_eq_of_tag_mem (fmt' := .bc7) h)) (build_bc7FieldList 3 f .m3 (by decide))
  | bc7M4 f => exact hplain (congrArg _ (format_eq_of_tag_mem (fmt' := .bc7) h)) (build_bc7FieldList 4 f .m4 (by decide))
  | bc7M5 f => exact hplain (congrArg _ (format_eq_of_tag_mem (fmt' := .bc7) h)) (build_bc7FieldList 5 f .m5 (by decide))
  | bc7M6 f => exact hplain (congrArg _ (format_eq_of_tag_mem (fmt' := .bc7) h)) (build_bc7FieldList 6 f .m6 (by decide))
  | bc7M7 f => exact hplain (congrArg _ (format_eq_of_tag_mem (fmt' := .bc7) h)) (build_bc7FieldList 7 f .m7 (by decide))
  | bc7Rsvd rest => exact hplain (congrArg _ (format_eq_of_tag_mem (fmt' := .bc7) h)) (by simp [fieldsOf, bc7Prefix, place])
  | _ => simp [tagsOf] at h

/-- The shapes of a two-subset layout: a mode code of `k` bits, the split fields, `D` and `IDX`. -/
def bc6hTwoShapes (L : Bc6hTwoLayout) (k w x y z : Nat) : List (Nat × List Part) :=
  [(k, [⟨0, k, 0⟩]), (w, L.rW), (w, L.gW), (w, L.bW), (x, L.rX), (y, L.gX), (z, L.bX), (x, L.rY), (y, L.gY), (z, L.bY),
    (x, L.rZ), (y, L.gZ), (z, L.bZ), (5, [⟨77, 5, 0⟩]), (46, [⟨82, 46, 0⟩])]

/-- The shapes of a one-subset layout: a mode code of 5 bits, the split fields and `IDX`. -/
def bc6hOneShapes (L : Bc6hOneLayout) (w x : Nat) : List (Nat × List Part) :=
  [(5, [⟨0, 5, 0⟩]), (w, L.rW), (w, L.gW), (w, L.bW), (x, L.rX), (x, L.gX), (x, L.bX), (63, [⟨65, 63, 0⟩])]

theorem layout_bc6hM1 : Layout 128 (bc6hTwoShapes bc6hM1Layout 2 10 5 5 5) := by decide
theorem layout_bc6hM2 : Layout 128 (bc6hTwoShapes bc6hM2Layout 2 7 6 6 6) := by decide
theorem layout_bc6hM3 : Layout 128 (bc6hTwoShapes bc6hM3Layout 5 11 5 4 4) := by decide
theorem layout_bc6hM4 : Layout 128 (bc6hTwoShapes bc6hM4Layout 5 11 4 5 4) := by decide
theorem layout_bc6hM5 : Layout 128 (bc6hTwoShapes bc6hM5Layout 5 11 4 4 5) := by decide
theorem layout_bc6hM6 : Layout 128 (bc6hTwoShapes bc6hM6Layout 5 9 5 5 5) := by decide
theorem layout_bc6hM7 : Layout 128 (bc6hTwoShapes bc6hM7Layout 5 8 6 5 5) := by decide
theorem layout_bc6hM8 : Layout 128 (bc6hTwoShapes bc6hM8Layout 5 8 5 6 5) := by decide
theorem layout_bc6hM9 : Layout 128 (bc6hTwoShapes bc6hM9Layout 5 8 5 5 6) := by decide
theorem layout_bc6hM10 : Layout 128 (bc6hTwoShapes bc6hM10Layout 5 6 6 6 6) := by decide
theorem layout_bc6hM11 : Layout 128 (bc6hOneShapes bc6hM11Layout 10 10) := by decide
theorem layout_bc6hM12 : Layout 128 (bc6hOneShapes bc6hM12Layout 11 9) := by decide
theorem layout_bc6hM13 : Layout 128 (bc6hOneShapes bc6hM13Layout 12 8) := by decide
theorem layout_bc6hM14 : Layout 128 (bc6hOneShapes bc6hM14Layout 16 4) := by decide
theorem layout_bc7M0 : Layout 128 ((1, [⟨0, 1, 0⟩]) :: bc7Shapes 0 4 0 0 6 4 0 6 45 0) := by decide
theorem layout_bc7M1 : Layout 128 ((2, [⟨0, 2, 0⟩]) :: bc7Shapes 1 6 0 0 4 6 0 2 46 0) := by decide
theorem layout_bc7M2 : Layout 128 ((3, [⟨0, 3, 0⟩]) :: bc7Shapes 2 6 0 0 6 5 0 0 29 0) := by decide
theorem layout_bc7M3 : Layout 128 ((4, [⟨0, 4, 0⟩]) :: bc7Shapes 3 6 0 0 4 7 0 4 30 0) := by decide
theorem layout_bc7M4 : Layout 128 ((5, [⟨0, 5, 0⟩]) :: bc7Shapes 4 0 2 1 2 5 6 0 31 47) := by decide
theorem layout_bc7M5 : Layout 128 ((6, [⟨0, 6, 0⟩]) :: bc7Shapes 5 0 2 0 2 7 8 0 31 31) := by decide
theorem layout_bc7M6 : Layout 128 ((7, [⟨0, 7, 0⟩]) :: bc7Shapes 6 0 0 0 2 7 7 2 63 0) := by decide
theorem layout_bc7M7 : Layout 128 ((8, [⟨0, 8, 0⟩]) :: bc7Shapes 7 6 0 0 4 5 5 4 30 0) := by decide
theorem layout_bc6hRsvd : Layout 128 [(5, [⟨0, 5, 0⟩]), (123, [⟨5, 123, 0⟩])] := by decide
theorem layout_bc7Rsvd : Layout 128 [(8, [⟨0, 8, 0⟩]), (120, [⟨8, 120, 0⟩])] := by decide

/-- The fields of a kind are a layout of its block. -/
theorem layout_fieldsOf {i : Instr} (h : fmt.tag ∈ tagsOf i) : Layout (8 * fmt.nblk) ((fieldsOf i).map SplitField.shape) := by
  have h6 : ∀ {shapes : List (Nat × List Part)}, fmt.tag ∈ [Format.bc6hu.tag, Format.bc6hs.tag] → Layout 128 shapes →
      Layout (8 * fmt.nblk) shapes := fun h6 hL => by rwa [(decodeBits_bc6h h6 0).1]
  cases i with
  | bc1 c0 c1 idx =>
    obtain rfl := format_eq_of_tag_mem (fmt' := .bc1) h
    simp only [fieldsOf, List.map_cons, List.map_nil, shape_single]
    decide
  | bc2 abm c0 c1 idx =>
    obtain rfl := format_eq_of_tag_mem (fmt' := .bc2) h
    simp only [fieldsOf, List.map_cons, List.map_nil, shape_single]
    decide
  | bc3 a0 a1 aidx c0 c1 idx =>
    obtain rfl := format_eq_of_tag_mem (fmt' := .bc3) h
    simp only [fieldsOf, List.map_cons, List.map_nil, shape_single]
    decide
  | bc4u e0 e1 idx =>
    obtain rfl := format_eq_of_tag_mem (fmt' := .bc4u) h
    simp only [fieldsOf, List.map_cons, List.map_nil, shape_single]
    decide
  | bc4s e0 e1 idx =>
    obtain rfl := format_eq_of_tag_mem (fmt' := .bc4s) h
    simp only [fieldsOf, List.map_cons, List.map_nil, shape_single]
    decide
  | bc5u ue0 ue1 uidx ve0 ve1 vidx =>
    obtain rfl := format_eq_of_tag_mem (fmt' := .bc5u) h
    simp only [fieldsOf, List.map_cons, List.map_nil, shape_single]
    decide
  | bc5s ue0 ue1 uidx ve0 ve1 vidx =>
    obtain rfl := format_eq_of_tag_mem (fmt' := .bc5s) h
    simp only [fieldsOf, List.map_cons, List.map_nil, shape_single]
    decide
  | bc6hM1 f => exact h6 h layout_bc6hM1
  | bc6hM2 f => exact h6 h layout_bc6hM2
  | bc6hM3 f => exact h6 h layout_bc6hM3
  | bc6hM4 f => exact h6 h layout_bc6hM4
  | bc6hM5 f => exact h6 h layout_bc6hM5
  | bc6hM6 f => exact h6 h layout_bc6hM6
  | bc6hM7 f => exact h6 h layout_bc6hM7
  | bc6hM8 f => exact h6 h layout_bc6hM8
  | bc6hM9 f => exact h6 h layout_bc6hM9
  | bc6hM10 f => exact h6 h layout_bc6hM10
  | bc6hM11 f => exact h6 h layout_bc6hM11
  | bc6hM12 f => exact h6 h layout_bc6hM12
  | bc6hM13 f => exact h6 h layout_bc6hM13
  | bc6hM14 f => exact h6 h layout_bc6hM14
  | bc6hRsvd13 rest => exact h6 h layout_bc6hRsvd
  | bc6hRsvd17 rest => exact h6 h layout_bc6hRsvd
  | bc6hRsvd1B rest => exact h6 h layout_bc6hRsvd
  | bc6hRsvd1F rest => exact h6 h layout_bc6hRsvd
  | bc7M0 f =>
    obtain rfl := format_eq_of_tag_mem (fmt' := .bc7) h
    rw [fieldsOf, List.map_cons, map_shape_bc7FieldList]
    exact layout_bc7M0
  | bc7M1 f =>
    obtain rfl := format_eq_of_tag_mem (fmt' := .bc7) h
    rw [fieldsOf, List.map_cons, map_shape_bc7FieldList]
    exact layout_bc7M1
  | bc7M2 f =>
    obtain rfl := format_eq_of_tag_mem (fmt' := .bc7) h
    rw [fieldsOf, List.map_cons, map_shape_bc7FieldList]
    exact layout_bc7M2
  | bc7M3 f =>
    obtain rfl := format_eq_of_tag_mem (fmt' := .bc7) h
    rw [fieldsOf, List.map_cons, map_shape_bc7FieldList]
    exact layout_bc7M3
  | bc7M4 f =>
    obtain rfl := format_eq_of_tag_mem (fmt' := .bc7) h
    rw [fieldsOf, List.map_cons, map_shape_bc7FieldList]
    exact layout_bc7M4
  | bc7M5 f =>
    obtain rfl := format_eq_of_tag_mem (fmt' := .bc7) h
    rw [fieldsOf, List.map_cons, map_shape_bc7FieldList]
    exact layout_bc7M5
  | bc7M6 f =>
    obtain rfl := format_eq_of_tag_mem (fmt' := .bc7) h
    rw [fieldsOf, List.map_cons, map_shape_bc7FieldList]
    exact layout_bc7M6
  | bc7M7 f =>
    obtain rfl := format_eq_of_tag_mem (fmt' := .bc7) h
    rw [fieldsOf, List.map_cons, map_shape_bc7FieldList]
    exact layout_bc7M7
  | bc7Rsvd rest =>
    obtain rfl := format_eq_of_tag_mem (fmt' := .bc7) h
    exact layout_bc7Rsvd
  | _ => simp [tagsOf] at h

/-- A block that holds the fields of a kind decodes to it. -/
theorem decodeBits_of_holds {i : Instr} (ht : fmt.tag ∈ tagsOf i) (h : Holds B (fieldsOf i)) : decodeBits fmt B = i := by
  cases i with
  | bc1 c0 c1 idx =>
    obtain rfl := format_eq_of_tag_mem (fmt' := .bc1) ht
    simp only [fieldsOf, holds_cons, gather_of_single, holds_nil, and_true] at h
    simp only [decodeBits, h]
  | bc2 abm c0 c1 idx =>
    obtain rfl := format_eq_of_tag_mem (fmt' := .bc2) ht
    simp only [fieldsOf, holds_cons, gather_of_single, holds_nil, and_true] at h
    simp only [decodeBits, h]
  | bc3 a0 a1 aidx c0 c1 idx =>
    obtain rfl := format_eq_of_tag_mem (fmt' := .bc3) ht
    simp only [fieldsOf, holds_cons, gather_of_single, holds_nil, and_true] at h
    simp only [decodeBits, h]
  | bc4u e0 e1 idx =>
    obtain rfl := format_eq_of_tag_mem (fmt' := .bc4u) ht
    simp only [fieldsOf, holds_cons, gather_of_single, holds_nil, and_true] at h
    simp only [decodeBits, h]
  | bc4s e0 e1 idx =>
    obtain rfl := format_eq_of_tag_mem (fmt' := .bc4s) ht
    simp only [fieldsOf, holds_cons, gather_of_single, holds_nil, and_true] at h
    simp only [decodeBits, h]
  | bc5u ue0 ue1 uidx ve0 ve1 vidx =>
    obtain rfl := format_eq_of_tag_mem (fmt' := .bc5u) ht
    simp only [fieldsOf, holds_cons, gather_of_single, holds_nil, and_true] at h
    simp only [decodeBits, h]
  | bc5s ue0 ue1 uidx ve0 ve1 vidx =>
    obtain rfl := format_eq_of_tag_mem (fmt' := .bc5s) ht
    simp only [fieldsOf, holds_cons, gather_of_single, holds_nil, and_true] at h
    simp only [decodeBits, h]
  | bc6hM1 f =>
    obtain ⟨hk, hf⟩ := decodeBc6h_of_holds h
    rw [(decodeBits_bc6h ht B).2, decodeBc6h, hk, ← holds_bc6hTwoFields.1 hf]
  | bc6hM2 f =>
    obtain ⟨hk, hf⟩ := decodeBc6h_of_holds h
    rw [(decodeBits_bc6h ht B).2, decodeBc6h, hk, ← holds_bc6hTwoFields.1 hf]
  | bc6hM3 f =>
    obtain ⟨hk, hf⟩ := decodeBc6h_of_holds h
    rw [(decodeBits_bc6h ht B).2, decodeBc6h, hk, ← holds_bc6hTwoFields.1 hf]
  | bc6hM4 f =>
    obtain ⟨hk, hf⟩ := decodeBc6h_of_holds h
    rw [(decodeBits_bc6h ht B).2, decodeBc6h, hk, ← holds_bc6hTwoFields.1 hf]
  | bc6hM5 f =>
    obtain ⟨hk, hf⟩ := decodeBc6h_of_holds h
    rw [(decodeBits_bc6h ht B).2, decodeBc6h, hk, ← holds_bc6hTwoFields.1 hf]
  | bc6hM6 f =>
    obtain ⟨hk, hf⟩ := decodeBc6h_of_holds h
    rw [(decodeBits_bc6h ht B).2, decodeBc6h, hk, ← holds_bc6hTwoFields.1 hf]
  | bc6hM7 f =>
    obtain ⟨hk, hf⟩ := decodeBc6h_of_holds h
    rw [(decodeBits_bc6h ht B).2, decodeBc6h, hk, ← holds_bc6hTwoFields.1 hf]
  | bc6hM8 f =>
    obtain ⟨hk, hf⟩ := decodeBc6h_of_holds h
    rw [(decodeBits_bc6h ht B).2, decodeBc6h, hk, ← holds_bc6hTwoFields.1 hf]
  | bc6hM9 f =>
    obtain ⟨hk, hf⟩ := decodeBc6h_of_holds h
    rw [(decodeBits_bc6h ht B).2, decodeBc6h, hk, ← holds_bc6hTwoFields.1 hf]
  | bc6hM10 f =>
    obtain ⟨hk, hf⟩ := decodeBc6h_of_holds h
    rw [(decodeBits_bc6h ht B).2, decodeBc6h, hk, ← holds_bc6hTwoFields.1 hf]
  | bc6hM11 f =>
    obtain ⟨hk, hf⟩ := decodeBc6h_of_holds h
    rw [(decodeBits_bc6h ht B).2, decodeBc6h, hk, ← holds_bc6hOneFields.1 hf]
  | bc6hM12 f =>
    obtain ⟨hk, hf⟩ := decodeBc6h_of_holds h
    rw [(decodeBits_bc6h ht B).2, decodeBc6h, hk, ← holds_bc6hOneFields.1 hf]
  | bc6hM13 f =>
    obtain ⟨hk, hf⟩ := decodeBc6h_of_holds h
    rw [(decodeBits_bc6h ht B).2, decodeBc6h, hk, ← holds_bc6hOneFields.1 hf]
  | bc6hM14 f =>
    obtain ⟨hk, hf⟩ := decodeBc6h_of_holds h
    rw [(decodeBits_bc6h ht B).2, decodeBc6h, hk, ← holds_bc6hOneFields.1 hf]
  | bc6hRsvd13 rest =>
    obtain ⟨hk, hf⟩ := decodeBc6h_of_holds h
    rw [(decodeBits_bc6h ht B).2, decodeBc6h, hk, ← gather_of_single.1 (holds_cons.1 hf).1]
  | bc6hRsvd17 rest =>
    obtain ⟨hk, hf⟩ := decodeBc6h_of_holds h
    rw [(decodeBits_bc6h ht B).2, decodeBc6h, hk, ← gather_of_single.1 (holds_cons.1 hf).1]
  | bc6hRsvd1B rest =>
    obtain ⟨hk, hf⟩ := decodeBc6h_of_holds h
    rw [(decodeBits_bc6h ht B).2, decodeBc6h, hk, ← gather_of_single.1 (holds_cons.1 hf).1]
  | bc6hRsvd1F rest =>
    obtain ⟨hk, hf⟩ := decodeBc6h_of_holds h
    rw [(decodeBits_bc6h ht B).2, decodeBc6h, hk, ← gather_of_single.1 (holds_cons.1 hf).1]
  | bc7M0 f =>
    obtain rfl := format_eq_of_tag_mem (fmt' := .bc7) ht
    obtain ⟨hk, hf⟩ := decodeBc7_of_holds h
    rw [decodeBits, decodeBc7, hk, ← holds_bc7FieldList.1 hf]
  | bc7M1 f =>
    obtain rfl := format_eq_of_tag_mem (fmt' := .bc7) ht
    obtain ⟨hk, hf⟩ := decodeBc7_of_holds h
    rw [decodeBits, decodeBc7, hk, ← holds_bc7FieldList.1 hf]
  | bc7M2 f =>
    obtain rfl := format_eq_of_tag_mem (fmt' := .bc7) ht
    obtain ⟨hk, hf⟩ := decodeBc7_of_holds h
    rw [decodeBits, decodeBc7, hk, ← holds_bc7FieldList.1 hf]
  | bc7M3 f =>
    obtain rfl := format_eq_of_tag_mem (fmt' := .bc7) ht
    obtain ⟨hk, hf⟩ := decodeBc7_of_holds h
    rw [decodeBits, decodeBc7, hk, ← holds_bc7FieldList.1 hf]
  | bc7M4 f =>
    obtain rfl := format_eq_of_tag_mem (fmt' := .bc7) ht
    obtain ⟨hk, hf⟩ := decodeBc7_of_holds h
    rw [decodeBits, decodeBc7, hk, ← holds_bc7FieldList.1 hf]
  | bc7M5 f =>
    obtain rfl := format_eq_of_tag_mem (fmt' := .bc7) ht
    obtain ⟨hk, hf⟩ := decodeBc7_of_holds h
    rw [decodeBits, decodeBc7, hk, ← holds_bc7FieldList.1 hf]
  | bc7M6 f =>
    obtain rfl := format_eq_of_tag_mem (fmt' := .bc7) ht
    obtain ⟨hk, hf⟩ := decodeBc7_of_holds h
    rw [decodeBits, decodeBc7, hk, ← holds_bc7FieldList.1 hf]
  | bc7M7 f =>
    obtain rfl := format_eq_of_tag_mem (fmt' := .bc7) ht
    obtain ⟨hk, hf⟩ := decodeBc7_of_holds h
    rw [decodeBits, decodeBc7, hk, ← holds_bc7FieldList.1 hf]
  | bc7Rsvd rest =>
    obtain rfl := format_eq_of_tag_mem (fmt' := .bc7) ht
    obtain ⟨hk, hf⟩ := decodeBc7_of_holds h
    rw [decodeBits, decodeBc7, hk, ← gather_of_single.1 (holds_cons.1 hf).1]
  | _ => simp [tagsOf] at ht

theorem decodeBc6h_spec (B : BitVec 128) : (decodeBc6h B).wellFormed = true ∧ tagsOf (decodeBc6h B) = [8, 9]
    ∧ Holds B (fieldsOf (decodeBc6h B)) := by
  have hpre := bc6hKind_eq_iff.1 (Eq.refl (bc6hKind (field B 0 5)))
  rw [decodeBc6h]
  generalize bc6hKind (field B 0 5) = k at hpre
  cases k with
  | m1 => exact ⟨rfl, rfl, holds_cons.2 ⟨hpre, holds_bc6hTwoFields.2 rfl⟩⟩
  | m2 => exact ⟨rfl, rfl, holds_cons.2 ⟨hpre, holds_bc6hTwoFields.2 rfl⟩⟩
  | m3 => exact ⟨rfl, rfl, holds_cons.2 ⟨hpre, holds_bc6hTwoFields.2 rfl⟩⟩
  | m4 => exact ⟨rfl, rfl, holds_cons.2 ⟨hpre, holds_bc6hTwoFields.2 rfl⟩⟩
  | m5 => exact ⟨rfl, rfl, holds_cons.2 ⟨hpre, holds_bc6hTwoFields.2 rfl⟩⟩
  | m6 => exact ⟨rfl, rfl, holds_cons.2 ⟨hpre, holds_bc6hTwoFields.2 rfl⟩⟩
  | m7 => exact ⟨rfl, rfl, holds_cons.2 ⟨hpre, holds_bc6hTwoFields.2 rfl⟩⟩
  | m8 => exact ⟨rfl, rfl, holds_cons.2 ⟨hpre, holds_bc6hTwoFields.2 rfl⟩⟩
  | m9 => exact ⟨rfl, rfl, holds_cons.2 ⟨hpre, holds_bc6hTwoFields.2 rfl⟩⟩
  | m10 => exact ⟨rfl, rfl, holds_cons.2 ⟨hpre, holds_bc6hTwoFields.2 rfl⟩⟩
  | m11 => exact ⟨rfl, rfl, holds_cons.2 ⟨hpre, holds_bc6hOneFields.2 rfl⟩⟩
  | m12 => exact ⟨rfl, rfl, holds_cons.2 ⟨hpre, holds_bc6hOneFields.2 rfl⟩⟩
  | m13 => exact ⟨rfl, rfl, holds_cons.2 ⟨hpre, holds_bc6hOneFields.2 rfl⟩⟩
  | m14 => exact ⟨rfl, rfl, holds_cons.2 ⟨hpre, holds_bc6hOneFields.2 rfl⟩⟩
  | _ => exact ⟨rfl, rfl, holds_cons.2 ⟨hpre, holds_cons.2 ⟨gather_of_single.2 rfl, holds_nil B⟩⟩⟩

theorem decodeBc7_spec (B : BitVec 128) : (decodeBc7 B).wellFormed = true ∧ tagsOf (decodeBc7 B) = [10]
    ∧ Holds B (fieldsOf (decodeBc7 B)) := by
  have hpre := bc7Kind_eq_iff.1 (Eq.refl (bc7Kind (field B 0 8)))
  rw [decodeBc7]
  generalize bc7Kind (field B 0 8) = k at hpre
  cases k with
  | rsvd => exact ⟨rfl, rfl, holds_cons.2 ⟨hpre, holds_cons.2 ⟨gather_of_single.2 rfl, holds_nil B⟩⟩⟩
  | _ => exact ⟨rfl, rfl, holds_cons.2 ⟨hpre, holds_bc7FieldList.2 rfl⟩⟩

/-- Every block is a well-formed instruction of its format with the fields that it holds (rule R107). -/
theorem decodeBits_spec (fmt : Format) (B : BitVec 128) : (decodeBits fmt B).wellFormed = true
    ∧ fmt.tag ∈ tagsOf (decodeBits fmt B) ∧ Holds B (fieldsOf (decodeBits fmt B)) := by
  obtain ⟨hwf6, htags6, hholds6⟩ := decodeBc6h_spec B
  obtain ⟨hwf7, htags7, hholds7⟩ := decodeBc7_spec B
  cases fmt with
  | bc6hu => exact ⟨hwf6, by rw [decodeBits, htags6]; decide, hholds6⟩
  | bc6hs => exact ⟨hwf6, by rw [decodeBits, htags6]; decide, hholds6⟩
  | bc7 => exact ⟨hwf7, by rw [decodeBits, htags7]; decide, hholds7⟩
  | _ =>
    refine ⟨rfl, List.mem_singleton.2 rfl, ?_⟩
    simp only [decodeBits, fieldsOf, holds_cons, gather_of_single, holds_nil, and_self]

/-! ## The round trips -/

/-- Decoding inverts encoding, for every block kind under each of its tags. -/
theorem decodeBlock_encode_kind {i : Instr} (ht : fmt.tag ∈ tagsOf i) : decodeBlock fmt.tag (encode i) = .ok i := by
  have hL := layout_fieldsOf ht
  have hn : 8 * fmt.nblk ≤ 128 := by have := nblk_le fmt; omega
  rw [decodeBlock_encode (ofTag_tag fmt) (encodeBits_eq_build ht) (toNat_build_lt hL),
    decodeBits_of_holds ht (gather_build hn hL)]

/-- Encoding inverts decoding, for every block of every format. -/
theorem encode_decodeBits {bytes : List Byte} (hl : bytes.length = fmt.nblk) :
    encode (decodeBits fmt (blockOfBytes bytes)) = bytes := by
  obtain ⟨-, ht, hholds⟩ := decodeBits_spec fmt (blockOfBytes bytes)
  have h16 : bytes.length ≤ 16 := hl ▸ nblk_le fmt
  have hB := toNat_blockOfBytes_lt h16
  rw [hl] at hB
  rw [encode_of_encodeBits (encodeBits_eq_build ht), build_gather (layout_fieldsOf ht) hB fun f hf => (hholds f hf).symm,
    ← hl, bytesOfBlock_blockOfBytes h16]

theorem tag_of_ofTag {tag : Nibble} {fmt : Format} (h : Format.ofTag tag = some fmt) : fmt.tag = tag := by
  revert tag
  cases fmt <;> decide

/-- Every tag of an instruction is that of a format. -/
theorem exists_format_of_mem_tagsOf {i : Instr} {tag : Nibble} (h : tag ∈ tagsOf i) : ∃ fmt : Format, fmt.tag = tag := by
  have hall : (tagsOf i).all (fun tag => (Format.ofTag tag).isSome) = true := by cases i <;> rfl
  obtain ⟨fmt, hfmt⟩ := Option.isSome_iff_exists.1 (List.all_eq_true.1 hall tag h)
  exact ⟨fmt, tag_of_ofTag hfmt⟩

/-- A block kind decodes to itself under each of its sources. -/
theorem decodeInstr_encode_of_tags {i : Instr} (h : tagsOf i ≠ []) : ∀ src ∈ sourcesOf i, decodeInstr src (encode i) = .ok i := by
  intro src hsrc
  have hmap : sourcesOf i = (tagsOf i).map .block := by
    unfold sourcesOf
    split
    · contradiction
    · rfl
  rw [hmap] at hsrc
  obtain ⟨tag, ht, rfl⟩ := List.mem_map.1 hsrc
  obtain ⟨fmt, rfl⟩ := exists_format_of_mem_tagsOf ht
  exact decodeBlock_encode_kind ht

/-- Settles O8: every kind is laid out without gap or overlap, so decoding reads back every field. -/
theorem roundTripBc6h : Obligations.RoundTripBc6h := fun _ h => decodeInstr_encode_of_tags (by simp [h])

/-- Settles O9: as for BC6H; a BC7 block's fields follow each other without gaps. -/
theorem roundTripBc7 : Obligations.RoundTripBc7 := fun _ h => decodeInstr_encode_of_tags (by simp [h])

/-- Settles O10: a block holds the fields it decodes to, and a layout leaves no other bit. -/
theorem encodeInvertsDecode : Obligations.EncodeInvertsDecode := by
  intro fmt bytes hl
  obtain ⟨hwf, ht, -⟩ := decodeBits_spec fmt (blockOfBytes bytes)
  exact ⟨_, decodeBlock_of_length (ofTag_tag fmt) hl, hwf, ht, encode_decodeBits hl⟩

/-- A command decodes to itself (rule R110). -/
theorem decodeInstr_encode_command {i : Instr} (h : tagsOf i = []) (hwf : i.wellFormed = true) :
    decodeInstr .command (encode i) = .ok i := by
  cases i with
  | cmdIllegal8to15 code =>
    have hcode : 8 ≤ code.toNat := by simpa [Instr.wellFormed] using hwf
    have hlow : (code.setWidth 8).setWidth 4 = code := by simp
    rw [show encode (.cmdIllegal8to15 code) = [code.setWidth 8] from rfl, decodeInstr, hlow,
      decodeCommand_of_eight_le hcode]
  | classify | decode | stats | extract | sext | fixup | isfix | cmdIllegal0 => rfl
  | _ => simp [tagsOf] at h

/-- Settles O7: a kind with tags is a block kind, one without is a command. -/
theorem roundTripPlain : Obligations.RoundTripPlain := by
  intro i hwf _
  by_cases h : tagsOf i = []
  · simp only [sourcesOf, h, List.mem_singleton, forall_eq]
    exact decodeInstr_encode_command h hwf
  · exact decodeInstr_encode_of_tags h

end Sys2Proof.Machine
end

section
/-!
The commands (spec/46_commands.md section 2, spec/60_exceptions.md section 3): what each does after the command-start
actions, said once as the cases of its checks, and the statements about their starts, results and errors.
-/
namespace Sys2Proof.Machine

variable {s t : State} {i : Instr} {fmt : Format}

/-! ## Every command -/

/-- What a command does after the command-start actions. -/
def commandAct : Instr → State → State
  | .classify => classifyAct
  | .decode => decodeAct
  | .stats => statsAct
  | .extract => extractAct
  | .sext => sextAct
  | .fixup => fixupAct
  | .isfix => isfixAct
  | .cmdIllegal0 => illegalCodeAct 0
  | .cmdIllegal8to15 code => illegalCodeAct code
  | _ => id

theorem exec_command (h : isCommand i = true) (s : State) : exec i s = runCommand (commandCode i) (commandAct i) s := by
  cases i with
  | classify | decode | stats | extract | sext | fixup | isfix | cmdIllegal0 | cmdIllegal8to15 code => rfl
  | _ => nomatch h

theorem exec_command_ready (h : isCommand i = true) (hr : Ready s) :
    exec i s = .next (commandAct i (startCommand (commandCode i) s)) :=
  (exec_command h s).trans (runCommand_ready hr)

theorem exec_command_eq_next (h : isCommand i = true) :
    exec i s = .next t ↔ Ready s ∧ t = commandAct i (startCommand (commandCode i) s) := by
  rw [exec_command h, runCommand_eq_next]

/-! ## The cases of each command -/

theorem classifyAct_cases (s : State) :
    (Format.ofTag s.cr.fmt = none ∧
      classifyAct s = raiseError .unsupportedFormat (s.cr.fmt.setWidth 64) (startAccumulator s)) ∨
    (∃ fmt, Format.ofTag s.cr.fmt = some fmt ∧ s.cr.base = 0 ∧ classifyAct s = raiseError .nullBuffer 0 (startAccumulator s)) ∨
    (∃ fmt, Format.ofTag s.cr.fmt = some fmt ∧ s.cr.base ≠ 0 ∧ classifyAct s =
      startWalk (decide (nrows s.cr = 0 ∨ ncols s.params s.cr fmt.nblk = 0)) (startAccumulator s)) :=
  withFormat_cases (startAccumulator s) _

theorem decodeAct_column (hf : Format.ofTag s.cr.fmt = some fmt) (hb : s.cr.base ≠ 0)
    (hx : ncols s.params s.cr fmt.nblk ≤ s.cr.bX.toNat) : decodeAct s = illegalOperand 5 (setDecv false s) :=
  (withFormat_supported (s := setDecv false s) hf hb).trans (if_pos hx)

theorem decodeAct_row (hf : Format.ofTag s.cr.fmt = some fmt) (hb : s.cr.base ≠ 0)
    (hx : s.cr.bX.toNat < ncols s.params s.cr fmt.nblk) (hy : nrows s.cr ≤ s.cr.bY.toNat) :
    decodeAct s = illegalOperand 6 (setDecv false s) :=
  (withFormat_supported (s := setDecv false s) hf hb).trans ((if_neg (not_le.2 hx)).trans (if_pos hy))

theorem decodeAct_legal (hf : Format.ofTag s.cr.fmt = some fmt) (hb : s.cr.base ≠ 0)
    (hx : s.cr.bX.toNat < ncols s.params s.cr fmt.nblk) (hy : s.cr.bY.toNat < nrows s.cr) : decodeAct s = setDecv false s :=
  (withFormat_supported (s := setDecv false s) hf hb).trans ((if_neg (not_le.2 hx)).trans (if_neg (not_le.2 hy)))

theorem decodeAct_cases (s : State) :
    (Format.ofTag s.cr.fmt = none ∧ decodeAct s = raiseError .unsupportedFormat (s.cr.fmt.setWidth 64) (setDecv false s)) ∨
    (∃ fmt, Format.ofTag s.cr.fmt = some fmt ∧ s.cr.base = 0 ∧ decodeAct s = raiseError .nullBuffer 0 (setDecv false s)) ∨
    (∃ r, decodeAct s = illegalOperand r (setDecv false s)) ∨
    (∃ fmt, Format.ofTag s.cr.fmt = some fmt ∧ s.cr.base ≠ 0 ∧ s.cr.bX.toNat < ncols s.params s.cr fmt.nblk ∧
      s.cr.bY.toNat < nrows s.cr ∧ decodeAct s = setDecv false s) := by
  obtain h | h | ⟨fmt, hf, hb, -⟩ := withFormat_cases (setDecv false s) _
  · exact .inl h
  · exact .inr (.inl h)
  · obtain hx | hx := le_or_gt (ncols s.params s.cr fmt.nblk) s.cr.bX.toNat
    · exact .inr (.inr (.inl ⟨5, decodeAct_column hf hb hx⟩))
    · obtain hy | hy := le_or_gt (nrows s.cr) s.cr.bY.toNat
      · exact .inr (.inr (.inl ⟨6, decodeAct_row hf hb hx hy⟩))
      · exact .inr (.inr (.inr ⟨fmt, hf, hb, hx, hy, decodeAct_legal hf hb hx hy⟩))

theorem statsAct_cases (s : State) :
    (s.cr.base = 0 ∧ statsAct s = raiseError .nullBuffer 0 (startStatistics s)) ∨
    (s.cr.base ≠ 0 ∧ s.cr.width * s.cr.height = 0 ∧ statsAct s = raiseError .emptyInput 0 (startStatistics s)) ∨
    (s.cr.base ≠ 0 ∧ s.cr.width * s.cr.height ≠ 0 ∧ statsAct s = startPixelPass .pass1 (startStatistics s)) := by
  unfold statsAct
  split_ifs with hb hn
  · exact .inl ⟨hb, rfl⟩
  · exact .inr (.inl ⟨hb, hn, rfl⟩)
  · exact .inr (.inr ⟨hb, hn, rfl⟩)

/-- What EXTRACT delivers: the named block's bits (rule R315). -/
def extractValue (s : State) (fmt : Format) : Word64 :=
  BitVec.ofNat 64 (extractField (memRead s.mem (namedBlockAddr s.cr fmt.nblk) fmt.nblk) s.cr.op0.toNat s.cr.op1.toNat)

theorem extractAct_width (hf : Format.ofTag s.cr.fmt = some fmt) (hb : s.cr.base ≠ 0) (hw : 64 < s.cr.op1.toNat) :
    extractAct s = illegalOperand 8 (setXv false s) :=
  (withFormat_supported (s := setXv false s) hf hb).trans (if_pos hw)

theorem extractAct_end (hf : Format.ofTag s.cr.fmt = some fmt) (hb : s.cr.base ≠ 0) (hw : s.cr.op1.toNat ≤ 64)
    (he : 8 * fmt.nblk < s.cr.op0.toNat + s.cr.op1.toNat) : extractAct s = illegalOperand 7 (setXv false s) :=
  (withFormat_supported (s := setXv false s) hf hb).trans ((if_neg (not_lt.2 hw)).trans (if_pos he))

theorem extractAct_legal (hf : Format.ofTag s.cr.fmt = some fmt) (hb : s.cr.base ≠ 0) (hw : s.cr.op1.toNat ≤ 64)
    (he : s.cr.op0.toNat + s.cr.op1.toNat ≤ 8 * fmt.nblk) : extractAct s = finishX (extractValue s fmt) s :=
  (withFormat_supported (s := setXv false s) hf hb).trans ((if_neg (not_lt.2 hw)).trans (if_neg (not_lt.2 he)))

theorem sextAct_width (hk : s.cr.op0.toNat = 0 ∨ 64 < s.cr.op0.toNat) : sextAct s = illegalOperand 7 (setXv false s) :=
  if_pos hk

theorem sextAct_raw (hk : 1 ≤ s.cr.op0.toNat) (hlt : s.cr.op0.toNat < 64) (hraw : 2 ^ s.cr.op0.toNat ≤ s.cr.op1.toNat) :
    sextAct s = illegalOperand 8 (setXv false s) := by
  rw [sextAct, if_neg (by omega), if_pos ⟨hlt, hraw⟩]

theorem sextAct_legal (hk : 1 ≤ s.cr.op0.toNat) (hle : s.cr.op0.toNat ≤ 64) (hraw : s.cr.op1.toNat < 2 ^ s.cr.op0.toNat) :
    sextAct s = finishX (BitVec.ofInt 64 (sextInt s.cr.op0.toNat s.cr.op1.toNat)) s := by
  rw [sextAct, if_neg (by omega), if_neg fun h => (not_le.2 hraw) h.2]

section
variable {m : Nat} {v : Nat → Nat → Nat → Word64}

theorem withTableOperands_op0 (h0 : 2 < s.cr.op0.toNat) : withTableOperands m v s = illegalOperand 7 (setXv false s) :=
  if_pos h0

theorem withTableOperands_op1 (h0 : s.cr.op0.toNat ≤ 2) (h1 : 63 < s.cr.op1.toNat) :
    withTableOperands m v s = illegalOperand 8 (setXv false s) :=
  (if_neg (not_lt.2 h0)).trans (if_pos h1)

theorem withTableOperands_op2 (h0 : s.cr.op0.toNat ≤ 2) (h1 : s.cr.op1.toNat ≤ 63) (h2 : m < s.cr.op2.toNat) :
    withTableOperands m v s = illegalOperand 9 (setXv false s) :=
  (if_neg (not_lt.2 h0)).trans ((if_neg (not_lt.2 h1)).trans (if_pos h2))

theorem withTableOperands_legal (h0 : s.cr.op0.toNat ≤ 2) (h1 : s.cr.op1.toNat ≤ 63) (h2 : s.cr.op2.toNat ≤ m) :
    withTableOperands m v s = finishX (v s.cr.op0.toNat s.cr.op1.toNat s.cr.op2.toNat) s :=
  (if_neg (not_lt.2 h0)).trans ((if_neg (not_lt.2 h1)).trans (if_neg (not_lt.2 h2)))

end

/-! ## Starts -/

theorem nrows_eq_floor (cr : CtrlRegs) : nrows cr = Spec.blockRows cr := by
  rw [nrows, Spec.blockRows, ← Nat.floor_div_eq_div (K := ℚ)]
  norm_num

/-- The ceiling of a quotient in integer arithmetic. -/
theorem ceil_div (a : Nat) {n : Nat} (hn : 0 < n) : (a + n - 1) / n = ⌈(a : ℚ) / n⌉₊ := by
  refine eq_of_forall_ge_iff fun k => ?_
  have hq : (0 : ℚ) < n := by exact_mod_cast hn
  have hk : k.succ * n = k * n + n := Nat.succ_mul k n
  rw [Nat.ceil_le, div_le_iff₀ hq, ← Nat.lt_succ_iff, Nat.div_lt_iff_lt_mul hn]
  norm_cast
  omega

theorem ncols_eq_blockCols (p : Params) (cr : CtrlRegs) {n : Nat} (hn : 0 < n) : ncols p cr n = Spec.blockCols p cr n := by
  unfold ncols Spec.blockCols
  cases p.colBound with
  | width => rw [← Nat.floor_div_eq_div (K := ℚ)]; norm_num
  | pitch => exact ceil_div cr.pitch.toNat hn

/-- Settles O27: the bounds are those of rule R29, and the checks of a CLASSIFY pass. -/
theorem classifyStarts : Obligations.ClassifyStarts := by
  refine ⟨fun p cr n hn => ⟨nrows_eq_floor cr, fun hp => ?_, fun hp => ?_⟩, fun s fmt hr hf hb => ?_⟩
  · rw [ncols_eq_blockCols p cr hn, Spec.blockCols, hp]
  · rw [ncols_eq_blockCols p cr hn, Spec.blockCols, hp]
  · exact (exec_command_ready rfl hr).trans
      (congrArg _ (withFormat_supported (s := startAccumulator (startCommand 1 s)) hf hb))

/-- Settles O30: the checks of a DECODE pass. -/
theorem decodeStarts : Obligations.DecodeStarts := by
  intro s fmt hr hf hb hx hy
  exact (exec_command_ready rfl hr).trans (congrArg _ (decodeAct_legal (s := startCommand 2 s) hf hb hx hy))

/-- Settles O32: the checks of a STATS pass. -/
theorem statsStarts : Obligations.StatsStarts := by
  intro s hr hb hn
  have hact : commandAct .stats (startCommand 3 s) = startPixelPass .pass1 (startStatistics (startCommand 3 s)) :=
    (if_neg hb).trans (if_neg hn)
  exact (exec_command_ready rfl hr).trans (congrArg _ hact)

/-- Settles O28: each error is the first check that fails (rule R349). -/
theorem launchErrors : Obligations.LaunchErrors := by
  refine ⟨fun s hr => ⟨fun hf => ?_, fun hf hb => ?_⟩, fun s hr => ⟨fun hf => ?_, fun fmt hf hb => ?_, fun fmt hf hb hx => ?_,
    fun fmt hf hb hx hy => ?_⟩, fun s hr => ⟨fun hb => ?_, fun hb hn => ?_, rfl⟩⟩
  · exact (exec_command_ready rfl hr).trans
      (congrArg _ (withFormat_unsupported (s := startAccumulator (startCommand 1 s)) hf))
  · obtain ⟨fmt, hf⟩ := Option.isSome_iff_exists.1 hf
    exact (exec_command_ready rfl hr).trans
      (congrArg _ (withFormat_null (s := startAccumulator (startCommand 1 s)) hf hb))
  · exact (exec_command_ready rfl hr).trans (congrArg _ (withFormat_unsupported (s := setDecv false (startCommand 2 s)) hf))
  · exact (exec_command_ready rfl hr).trans (congrArg _ (withFormat_null (s := setDecv false (startCommand 2 s)) hf hb))
  · exact (exec_command_ready rfl hr).trans (congrArg _ (decodeAct_column (s := startCommand 2 s) hf hb hx))
  · exact (exec_command_ready rfl hr).trans (congrArg _ (decodeAct_row (s := startCommand 2 s) hf hb hx hy))
  · exact (exec_command_ready rfl hr).trans (congrArg _ (if_pos hb))
  · refine (exec_command_ready rfl hr).trans (congrArg _ ((if_neg hb).trans ((if_pos hn).trans ?_)))
    change raiseError .emptyInput 0 (setStatv false { startCommand 3 s with st := StatRegs.start (s.cr.width * s.cr.height) }) = _
    rw [hn]
    rfl

/-! ## Results and operand errors -/

theorem extractValue_eq (s : State) (fmt : Format) : extractValue s fmt = BitVec.ofNat 64 (Spec.readLE s.mem
    (BitVec.ofNat 64 (s.cr.base.toNat + s.cr.bY.toNat * s.cr.pitch.toNat + s.cr.bX.toNat * fmt.nblk)) fmt.nblk
      / 2 ^ s.cr.op0.toNat % 2 ^ s.cr.op1.toNat) := by
  rw [extractValue, memRead_eq_readLE, extractField, Nat.shiftRight_eq_div_pow, namedBlockAddr, blockAddr]

/-- Settles O34: the last case of EXTRACT's checks. -/
theorem extractCompletes : Obligations.ExtractCompletes := by
  intro s fmt hr hf hb hw hoff
  rw [exec_command_ready rfl hr, ← extractValue_eq]
  exact congrArg _ (extractAct_legal (s := startCommand 4 s) hf hb hw hoff)

/-- Rule R151 as the value ISFIX delivers. -/
theorem ofNat_isfix (p sh j : Nat) :
    BitVec.ofNat 64 (isfix p sh j).toNat = if ∃ q ≤ p, fixupEntry p sh q = j then 1 else 0 := by
  have hiff : isfix p sh j = true ↔ ∃ q ≤ p, fixupEntry p sh q = j := by
    rw [isfix_iff_mem_fixupRow, mem_fixupRow]
    simp only [eq_comm]
  split_ifs with hq
  · rw [hiff.2 hq]; rfl
  · rw [Bool.eq_false_iff.2 (mt hiff.1 hq)]; rfl

theorem exec_fixup_ready (hr : Ready s) : exec .fixup s =
    .next (withTableOperands 2 (fun p t q => BitVec.ofNat 64 (fixupEntry p t q)) (startCommand 6 s)) := runCommand_ready hr

theorem exec_isfix_ready (hr : Ready s) : exec .isfix s =
    .next (withTableOperands 15 (fun p t j => BitVec.ofNat 64 (isfix p t j).toNat) (startCommand 7 s)) := runCommand_ready hr

/-- Settles O39: the last case of the table commands' checks; membership in the row is `isfix` (rule R151). -/
theorem fixupIsfixComplete : Obligations.FixupIsfixComplete := by
  intro s hr h0 h1
  refine ⟨fun h2 => ?_, fun h2 => ?_⟩
  · exact (exec_fixup_ready hr).trans (congrArg _ (withTableOperands_legal (s := startCommand 6 s) h0 h1 h2))
  · rw [← ofNat_isfix]
    exact (exec_isfix_ready hr).trans (congrArg _ (withTableOperands_legal (s := startCommand 7 s) h0 h1 h2))

/-- Settles O35: each error is the first check that fails (rule R349). -/
theorem operandErrors : Obligations.OperandErrors := by
  refine ⟨fun s hr => ⟨fun hf => ?_, fun fmt hf hb => ?_, fun fmt hf hb hw => ?_, fun fmt hf hb hw he => ?_⟩,
    fun s hr => ⟨fun hk => ?_, fun hk hlt hraw => ?_⟩,
    fun s hr => ⟨fun h0 => ⟨?_, ?_⟩, fun h0 h1 => ⟨?_, ?_⟩, fun h0 h1 h2 => ?_, fun h0 h1 h2 => ?_⟩⟩
  · exact (exec_command_ready rfl hr).trans (congrArg _ (withFormat_unsupported (s := setXv false (startCommand 4 s)) hf))
  · exact (exec_command_ready rfl hr).trans (congrArg _ (withFormat_null (s := setXv false (startCommand 4 s)) hf hb))
  · exact (exec_command_ready rfl hr).trans (congrArg _ (extractAct_width (s := startCommand 4 s) hf hb hw))
  · exact (exec_command_ready rfl hr).trans (congrArg _ (extractAct_end (s := startCommand 4 s) hf hb hw he))
  · exact (exec_command_ready rfl hr).trans (congrArg _ (sextAct_width (s := startCommand 5 s) hk))
  · exact (exec_command_ready rfl hr).trans (congrArg _ (sextAct_raw (s := startCommand 5 s) hk hlt hraw))
  · exact (exec_fixup_ready hr).trans (congrArg _ (withTableOperands_op0 (s := startCommand 6 s) h0))
  · exact (exec_isfix_ready hr).trans (congrArg _ (withTableOperands_op0 (s := startCommand 7 s) h0))
  · exact (exec_fixup_ready hr).trans (congrArg _ (withTableOperands_op1 (s := startCommand 6 s) h0 h1))
  · exact (exec_isfix_ready hr).trans (congrArg _ (withTableOperands_op1 (s := startCommand 7 s) h0 h1))
  · exact (exec_fixup_ready hr).trans (congrArg _ (withTableOperands_op2 (s := startCommand 6 s) h0 h1 h2))
  · exact (exec_isfix_ready hr).trans (congrArg _ (withTableOperands_op2 (s := startCommand 7 s) h0 h1 h2))

/-! ## Sign extension -/

theorem sextInt_of_lt {k raw : Nat} (h : raw < 2 ^ (k - 1)) : sextInt k raw = raw := by
  rw [sextInt, Nat.testBit_lt_two_pow h]
  rfl

theorem sextInt_of_ge {k raw : Nat} (h : 2 ^ (k - 1) ≤ raw) (hraw : raw < 2 ^ k) : sextInt k raw = (raw : Int) - 2 ^ k := by
  have hbit : raw.testBit (k - 1) = true := Nat.testBit_of_two_pow_le_and_two_pow_add_one_gt h
    (lt_of_lt_of_le hraw (Nat.pow_le_pow_right two_pos (by omega)))
  rw [sextInt, if_pos hbit]

/-- Settles O38: a value below the half is kept, one from the half on is less by `2^k`. -/
theorem sextLaws : Obligations.SextLaws := by
  intro k raw hk hraw
  have hpow : 2 ^ k = 2 * 2 ^ (k - 1) := by rw [← pow_succ', Nat.sub_add_cancel hk]
  have hpowZ : (2 : Int) ^ k = 2 * 2 ^ (k - 1) := by exact_mod_cast hpow
  have hpos : 0 < 2 ^ (k - 1) := Nat.two_pow_pos _
  have hhalf : ((2 ^ (k - 1) : Nat) : Int) = 2 ^ (k - 1) := by norm_cast
  refine ⟨?_, sextInt_of_lt, ?_, ?_⟩
  · rw [sextInt_of_ge le_rfl (by omega), hhalf]
    omega
  · rw [sextInt_of_ge (by omega) (by omega)]
    push_cast [Nat.one_le_two_pow]
    omega
  · obtain hlt | hge := lt_or_ge raw (2 ^ (k - 1))
    · rw [sextInt_of_lt hlt]
      refine ⟨BitVec.ofInt_natCast k raw, ?_, ?_⟩ <;> omega
    · rw [sextInt_of_ge hge hraw]
      refine ⟨?_, by omega, by omega⟩
      rw [← BitVec.ofInt_natCast]
      have hcast : (2 : Int) ^ k = ((2 ^ k : Nat) : Int) := by norm_cast
      refine BitVec.eq_of_toInt_eq ?_
      rw [BitVec.toInt_ofInt, BitVec.toInt_ofInt, hcast]
      exact Int.sub_bmod_right _ _

/-- The complement of `2^k - 1` is minus `2^k`. -/
theorem not_ofNat_two_pow_sub_one (k : Nat) : ~~~(BitVec.ofNat 64 (2 ^ k - 1)) = BitVec.ofInt 64 (-2 ^ k) := by
  have hneg : (-2 ^ k : Int) = Int.negSucc (2 ^ k - 1) := by
    rw [Int.negSucc_eq]
    push_cast [Nat.one_le_two_pow]
    ring
  rw [hneg, BitVec.ofInt_negSucc_eq_not_ofNat]

/-- The source's formula: every bit from `k` on is set where bit `k - 1` is set, which subtracts `2^k` (rule R146). -/
theorem ofInt_sextInt (x : Word64) {k : Nat} (hx : x.toNat < 2 ^ k) : BitVec.ofInt 64 (sextInt k x.toNat)
    = x ||| (if x.getLsbD (k - 1) then ~~~(BitVec.ofNat 64 (2 ^ k - 1)) else 0) := by
  rw [sextInt, BitVec.testBit_toNat]
  split_ifs with hbit
  · have hdisj : x &&& ~~~(BitVec.ofNat 64 (2 ^ k - 1)) = 0#64 := by
      refine BitVec.eq_of_getLsbD_eq fun i hi => ?_
      have hlow : x.getLsbD i = true → i < k := fun h => by
        by_contra hge
        rw [← BitVec.testBit_toNat, Nat.testBit_lt_two_pow (lt_of_lt_of_le hx (Nat.pow_le_pow_right two_pos (not_lt.1 hge)))] at h
        exact absurd h (by decide)
      rw [BitVec.getLsbD_and, BitVec.getLsbD_not, BitVec.getLsbD_ofNat, Nat.testBit_two_pow_sub_one, decide_eq_true hi]
      by_cases h : x.getLsbD i = true
      · simp [hlow h]
      · simp [h]
    rw [← BitVec.add_eq_or_of_and_eq_zero _ _ hdisj, not_ofNat_two_pow_sub_one, Int.sub_eq_add_neg, BitVec.ofInt_add,
      BitVec.ofInt_natCast, BitVec.ofNat_toNat, BitVec.setWidth_eq]
  · simp

/-- Settles O37: the last case of SEXT's checks, with the value as the source computes it. -/
theorem sextCompletes : Obligations.SextCompletes := by
  intro s hr hk hle hraw
  rw [exec_command_ready rfl hr, ← ofInt_sextInt s.cr.op1 hraw]
  exact congrArg _ (sextAct_legal (s := startCommand 5 s) hk hle hraw)

end Sys2Proof.Machine
end

section
/-!
The extractor over machine words and the index unpacker (spec/40_extract_fixup.md sections 1, 3 and 4).
-/
namespace Sys2Proof.Machine

/-! ## Extraction -/

theorem testBit_extractField (B off w i : Nat) :
    (extractField B off w).testBit i = (decide (i < w) && B.testBit (off + i)) := by
  rw [extractField, Nat.testBit_mod_two_pow, Nat.testBit_shiftRight]

/-- Settles O36: bit `i` of the field is bit `off + i` of the block, which is in the low word below 64 and in the high word
from 64 on. -/
theorem extractByWords : Obligations.ExtractByWords := by
  intro B off w _ hw _
  refine Nat.eq_of_testBit_eq fun i => ?_
  rw [testBit_extractField, Spec.extractWords]
  by_cases hi : i < w
  · simp only [decide_eq_true hi, Bool.true_and]
    split_ifs with h1 h2
    · simp [-Nat.reducePow, Nat.testBit_mod_two_pow, hi, show off + i < 64 by omega]
    · simp [-Nat.reducePow, Nat.testBit_mod_two_pow, Nat.testBit_div_two_pow, hi, show off - 64 + i + 64 = off + i by omega]
    · obtain hlt | hge := lt_or_ge (off + i) 64
      · simp [-Nat.reducePow, Nat.testBit_mod_two_pow, hi, hlt, show ¬ 64 ≤ i + off by omega]
      · simp [-Nat.reducePow, Nat.testBit_mod_two_pow, Nat.testBit_div_two_pow, hi, show ¬ off + i < 64 by omega,
          show 64 ≤ i + off by omega, show i - (64 - off) + 64 = off + i by omega]
  · split_ifs <;> simp [-Nat.reducePow, Nat.testBit_mod_two_pow, hi]

/-! ## Index lists -/

variable {F n p sh : Nat}

theorem idxPos_succ (n p sh j : Nat) : idxPos n p sh (j + 1) = idxPos n p sh j + idxWidth n p sh j := rfl

theorem idxWidth_le (n p sh j : Nat) : idxWidth n p sh j ≤ n := by
  unfold idxWidth
  split_ifs <;> omega

/-- An index of a list: the bits from its position on, as many as its width (rule R152). -/
theorem toNat_unpack (hn : n ≤ 4) (j : Fin 16) :
    ((unpack F n p sh)[j]).toNat = (F >>> idxPos n p sh j.val) % 2 ^ idxWidth n p sh j.val := by
  have hlt : (F >>> idxPos n p sh j.val) % 2 ^ idxWidth n p sh j.val < 2 ^ 4 :=
    lt_of_lt_of_le (Nat.mod_lt _ (Nat.two_pow_pos _)) (Nat.pow_le_pow_right two_pos ((idxWidth_le n p sh j).trans hn))
  simp only [unpack, Fin.getElem_fin, Vector.getElem_ofFn, BitVec.toNat_ofNat, Nat.mod_eq_of_lt hlt]

/-- The loop of rule R152 from pixel `j` on, at the position where `j` begins. -/
theorem unpackLoop_eq_map (F n p sh : Nat) : ∀ count j : Nat, Spec.unpackLoop F n p sh count j (idxPos n p sh j)
    = (List.range' j count).map fun i => (F >>> idxPos n p sh i) % 2 ^ idxWidth n p sh i
  | 0, _ => rfl
  | count + 1, j => by
    rw [Spec.unpackLoop, List.range'_succ, List.map_cons]
    exact congrArg _ (unpackLoop_eq_map F n p sh count (j + 1))

theorem map_toNat_unpack (hn : n ≤ 4) :
    (unpack F n p sh).toList.map BitVec.toNat = Spec.unpackLoop F n p sh 16 0 0 := by
  refine Eq.trans ?_ (unpackLoop_eq_map F n p sh 16 0).symm
  refine List.ext_getElem (by simp) fun i h₁ h₂ => ?_
  have hi : i < 16 := by simpa using h₁
  simpa using toNat_unpack (F := F) (p := p) (sh := sh) hn ⟨i, hi⟩

/-- The list of rule R152 as `DR` holds it. -/
theorem indexList_eq_unpack (hn : n ≤ 4) : Spec.indexList F n p sh = unpack F n p sh := by
  refine Vector.ext fun j hj => ?_
  rw [Spec.indexList, Vector.getElem_ofFn, ← map_toNat_unpack hn]
  simp [hj]

/-- Every pixel takes `n` bits, one less at a fix-up position. -/
theorem idxPos_add_countP (hn : 1 ≤ n) (p sh : Nat) : ∀ j, idxPos n p sh j + (List.range j).countP (isfix p sh) = j * n
  | 0 => by simp [idxPos]
  | j + 1 => by
    have ih := idxPos_add_countP hn p sh j
    rw [idxPos_succ, List.range_succ, List.countP_append, List.countP_singleton, Nat.succ_mul, idxWidth]
    split_ifs <;> omega

/-- Settles O43: the loop carries `pos_j`, and there are `p + 1` fix-up positions. -/
theorem unpackIsTheLoop : Obligations.UnpackIsTheLoop := by
  refine ⟨fun F n p sh _ hn _ _ => ⟨map_toNat_unpack hn, fun j hj => ?_⟩, fun n p sh hn _ hp hsh => ?_⟩
  · rw [toNat_unpack hn, idxWidth, if_pos hj]
    exact Nat.mod_lt _ (Nat.two_pow_pos _)
  · have hcount := countP_isfix hp hsh
    have hpos := idxPos_add_countP (show 1 ≤ n by omega) p sh 16
    rw [hcount] at hpos
    omega

/-! ## Packing -/

/-- The field that holds the first `m` indices (rule R154). -/
def packed (x : Nat → Nat) (n p sh : Nat) : Nat → Nat
  | 0 => 0
  | m + 1 => packed x n p sh m + x m * 2 ^ idxPos n p sh m

theorem pack_eq_packed (idx : Vector (BitVec 4) 16) (n p sh : Nat) :
    pack idx n p sh = packed (fun j => (idx.toList.getD j 0).toNat) n p sh 16 := by
  have hfold : ∀ m, (List.range m).foldl (fun acc j => acc + (idx.toList.getD j 0).toNat <<< idxPos n p sh j) 0
      = packed (fun j => (idx.toList.getD j 0).toNat) n p sh m := by
    intro m
    induction m with
    | zero => rfl
    | succ m ih => rw [List.range_succ, List.foldl_append, ih, List.foldl_cons, List.foldl_nil, Nat.shiftLeft_eq, packed]
  exact hfold 16

theorem idxPos_mono (n p sh : Nat) : Monotone (idxPos n p sh) :=
  monotone_nat_of_le_succ fun _ => Nat.le_add_right _ _

theorem packed_lt {x : Nat → Nat} : ∀ m, (∀ j < m, x j < 2 ^ idxWidth n p sh j) → packed x n p sh m < 2 ^ idxPos n p sh m
  | 0, _ => by simp [packed, idxPos]
  | m + 1, hx => by
    have ih := packed_lt m fun j hj => hx j (by omega)
    have hm : (x m + 1) * 2 ^ idxPos n p sh m ≤ 2 ^ idxWidth n p sh m * 2 ^ idxPos n p sh m :=
      Nat.mul_le_mul_right _ (hx m (by omega))
    rw [idxPos_succ, packed, pow_add, mul_comm (2 ^ idxPos n p sh m)]
    rw [Nat.succ_mul] at hm
    omega

/-- An index is found at its position: the indices before it are below, those after it are above. -/
theorem packed_shiftRight {x : Nat → Nat} (m : Nat) (hx : ∀ j < m, x j < 2 ^ idxWidth n p sh j) {i : Nat} (hi : i < m) :
    (packed x n p sh m >>> idxPos n p sh i) % 2 ^ idxWidth n p sh i = x i := by
  induction m with
  | zero => omega
  | succ m ih =>
    have hlow : ∀ j < m, x j < 2 ^ idxWidth n p sh j := fun j hj => hx j (by omega)
    rw [Nat.shiftRight_eq_div_pow, packed]
    obtain hlt | rfl := Nat.lt_succ_iff_lt_or_eq.1 hi
    · have hle : idxPos n p sh i + idxWidth n p sh i ≤ idxPos n p sh m := idxPos_mono n p sh hlt
      obtain ⟨d, hd⟩ := Nat.exists_eq_add_of_le hle
      rw [hd, pow_add, pow_add, show x m * (2 ^ idxPos n p sh i * 2 ^ idxWidth n p sh i * 2 ^ d)
        = 2 ^ idxPos n p sh i * (2 ^ idxWidth n p sh i * (x m * 2 ^ d)) by ring,
        Nat.add_mul_div_left _ _ (Nat.two_pow_pos _), Nat.add_mul_mod_self_left, ← Nat.shiftRight_eq_div_pow]
      exact ih hlow hlt
    · rw [Nat.add_mul_div_right _ _ (Nat.two_pow_pos _), Nat.div_eq_of_lt (packed_lt i hlow), Nat.zero_add,
        Nat.mod_eq_of_lt (hx i (by omega))]

/-- Settles O44: every index is found at its position. -/
theorem unpackInvertsPack : Obligations.UnpackInvertsPack := by
  intro idx n p sh _ hn _ _ hfit
  refine Vector.ext fun j hj => BitVec.eq_of_toNat_eq ?_
  have hx : ∀ i < 16, (idx.toList.getD i 0).toNat < 2 ^ idxWidth n p sh i := fun i hi => by
    simpa [hi] using hfit ⟨i, hi⟩
  have hun := toNat_unpack (F := pack idx n p sh) (p := p) (sh := sh) hn ⟨j, hj⟩
  rw [pack_eq_packed, packed_shiftRight 16 hx hj, ← pack_eq_packed] at hun
  simpa [hj] using hun

/-- Settles O41. -/
theorem fixupTableValues : Obligations.FixupTableValues := by
  refine ⟨?_, ?_, ?_⟩ <;> decide

end Sys2Proof.Machine
end

section
/-!
The BC6H and BC7 block kinds under DECODE (spec/42_bc6h.md section 1, spec/43_bc7.md sections 1 and 3): the core's results
are those the rules write, and each kind delivers its result.
-/
namespace Sys2Proof.Machine

variable {s : State}

/-! ## BC6H -/

theorem component_eq_bc6hReg (signed : Bool) {w : Nat} (x : BitVec w) : component signed x = Spec.bc6hReg signed x := by
  cases signed with
  | false => exact component_unsigned x
  | true => exact congrArg (BitVec.ofInt 16) (sextInt_toNat x)

theorem bc6hTwoResult_eq (m : BitVec 5) (signed : Bool) {w x y z : Nat} (f : Bc6hTwo w x y z) :
    bc6hTwoResult m signed f = Spec.bc6hTwoDr m signed f := by
  simp only [bc6hTwoResult, Spec.bc6hTwoDr, bc6hEndpoint, rgba, component_eq_bc6hReg, noEndpoint_eq,
    indexList_eq_unpack (show 3 ≤ 4 by decide), BitVec.ofNat_toNat]

theorem bc6hOneResult_eq (m : BitVec 5) (signed : Bool) {w x : Nat} (f : Bc6hOne w x) :
    bc6hOneResult m signed f = Spec.bc6hOneDr m signed f := by
  simp only [bc6hOneResult, Spec.bc6hOneDr, bc6hEndpoint, rgba, component_eq_bc6hReg, noEndpoint_eq,
    indexList_eq_unpack (show 4 ≤ 4 by decide)]

theorem execDecodable_two (h : Decoding s) (b : List (Fin 15)) (m : BitVec 5) {w x y z : Nat} (f : Bc6hTwo w x y z) :
    execDecodable b (bc6hTwoResult m (bc6hSigned s) f) s
      = .next (Spec.delivered (Spec.bc6hTwoDr m (decide (s.cr.fmt = 9)) f) s) := by
  rw [execDecodable_decoding h, bc6hTwoResult_eq]
  rfl

theorem execDecodable_one (h : Decoding s) (b : List (Fin 15)) (m : BitVec 5) {w x : Nat} (f : Bc6hOne w x) :
    execDecodable b (bc6hOneResult m (bc6hSigned s) f) s
      = .next (Spec.delivered (Spec.bc6hOneDr m (decide (s.cr.fmt = 9)) f) s) := by
  rw [execDecodable_decoding h, bc6hOneResult_eq]
  rfl

/-- Settles O20: the ten modes differ in the widths of their fields, of which the rules speak alike. -/
theorem bc6hTwoSubsetDecoded : Obligations.Bc6hTwoSubsetDecoded := fun _ h =>
  ⟨fun f => execDecodable_two h _ _ f, fun f => execDecodable_two h _ _ f, fun f => execDecodable_two h _ _ f,
    fun f => execDecodable_two h _ _ f, fun f => execDecodable_two h _ _ f, fun f => execDecodable_two h _ _ f,
    fun f => execDecodable_two h _ _ f, fun f => execDecodable_two h _ _ f, fun f => execDecodable_two h _ _ f,
    fun f => execDecodable_two h _ _ f⟩

/-- Settles O21: as for two subsets. -/
theorem bc6hOneSubsetDecoded : Obligations.Bc6hOneSubsetDecoded := fun _ h =>
  ⟨fun f => execDecodable_one h _ _ f, fun f => execDecodable_one h _ _ f, fun f => execDecodable_one h _ _ f,
    fun f => execDecodable_one h _ _ f⟩

/-! ## BC7 -/

theorem fieldAt_eq_comp {w n : Nat} (v : Vector (BitVec w) n) (e : Nat) : fieldAt v e = BitVec.ofNat 16 (Spec.comp v e) := by
  rw [fieldAt, Spec.comp, List.getD_eq_getElem?_getD, List.getD_eq_getElem?_getD, List.getElem?_map]
  cases v.toList[e]? <;> rfl

/-- A component that the mode does not have is 0. -/
theorem comp_of_width_zero {n : Nat} (v : Vector (BitVec 0) n) (e : Nat) : Spec.comp v e = 0 := by
  rw [Spec.comp, List.getD_eq_getElem?_getD, List.getElem?_map]
  cases v.toList[e]? with
  | none => rfl
  | some x => exact Nat.lt_one_iff.1 x.isLt

theorem bc7Raw_eq {part rot isel ne col alpha np ix ix2 : Nat} (f : Bc7Fields part rot isel ne col alpha np ix ix2) (e : Nat) :
    bc7Raw f e = #v[BitVec.ofNat 16 (Spec.comp f.r e), BitVec.ofNat 16 (Spec.comp f.g e), BitVec.ofNat 16 (Spec.comp f.b e),
      BitVec.ofNat 16 (Spec.comp f.a e)] := by
  simp only [bc7Raw, rgba, fieldAt_eq_comp]

/-- Appending a P-bit below a component doubles it and adds the bit (rule R105). -/
theorem withPBit_ofNat (v : Nat) (p : BitVec 1) : withPBit (BitVec.ofNat 16 v) p = BitVec.ofNat 16 (2 * v + p.toNat) := by
  have hdisj : BitVec.ofNat 16 v <<< 1 &&& p.setWidth 16 = 0#16 := by
    refine BitVec.eq_of_getLsbD_eq fun i hi => ?_
    cases i with
    | zero => simp
    | succ i => simp
  have hdouble : BitVec.ofNat 16 v <<< 1 = BitVec.ofNat 16 (2 * v) := by
    refine BitVec.eq_of_toNat_eq ?_
    simp [BitVec.toNat_shiftLeft, Nat.shiftLeft_eq, mul_comm]
  rw [withPBit, ← BitVec.add_eq_or_of_and_eq_zero _ _ hdisj, hdouble, BitVec.ofNat_add, BitVec.ofNat_toNat]

/-- A component with the P-bit that applies to its endpoint, if any (rule R222). -/
def appendPBit (q : Option (BitVec 1)) (v : Nat) : Nat :=
  match q with
  | some P => 2 * v + P.toNat
  | none => v

theorem bc7Endpoint_eq {part rot isel ne col alpha np ix ix2 : Nat} (f : Bc7Fields part rot isel ne col alpha np ix ix2)
    (pbits : List (BitVec 1)) (e : Nat) :
    (if e < pbits.length then bc7Reconstruct (0 < alpha) (bc7Raw f e) (pbitAt pbits e) else bc7Raw f e)
      = #v[BitVec.ofNat 16 (appendPBit pbits[e]? (Spec.comp f.r e)), BitVec.ofNat 16 (appendPBit pbits[e]? (Spec.comp f.g e)),
        BitVec.ofNat 16 (appendPBit pbits[e]? (Spec.comp f.b e)),
        if alpha = 0 then 0 else BitVec.ofNat 16 (appendPBit pbits[e]? (Spec.comp f.a e))] := by
  by_cases he : e < pbits.length
  · have hbit : pbitAt pbits e = pbits[e] := by simp [pbitAt, he]
    rw [if_pos he, bc7Raw_eq, hbit, List.getElem?_eq_getElem he]
    simp only [bc7Reconstruct, rgba, appendPBit, ← withPBit_ofNat]
    by_cases ha : alpha = 0
    · simp [ha]
    · simp [ha, Nat.pos_of_ne_zero ha]
  · have halpha : BitVec.ofNat 16 (Spec.comp f.a e) = if alpha = 0 then 0 else BitVec.ofNat 16 (Spec.comp f.a e) := by
      split_ifs with ha
      · subst ha
        rw [comp_of_width_zero]
        rfl
      · rfl
    rw [if_neg he, bc7Raw_eq, List.getElem?_eq_none (not_lt.1 he), halpha]
    rfl

/-- The result of a BC7 block as rules R222, R223 and R233 write it; `pbit` names the P-bit that applies to an endpoint. -/
theorem bc7Result_eq (m ns n : Nat) {pbits : List (BitVec 1)} {pbit : Nat → Option (BitVec 1)} (ix1 : Vector (BitVec 4) 16)
    {part rot isel ne col alpha np ix ix2 : Nat} (f : Bc7Fields part rot isel ne col alpha np ix ix2)
    (hp : ∀ e, pbit e = pbits[e]?) (hns : ns < 4) (hn : n ≤ 4) :
    bc7Result (BitVec.ofNat 5 m) (BitVec.ofNat 2 ns) pbits n ix1 f = Spec.bc7Dr m ns n pbit ix1 f := by
  obtain rfl : pbit = fun e => pbits[e]? := funext hp
  have hns' : (BitVec.ofNat 2 ns).toNat = ns := by simpa using Nat.mod_eq_of_lt hns
  have hpb : ∀ e, pbitAt pbits e = (pbits[e]?).getD 0 := fun e => List.getD_eq_getElem?_getD
  simp only [bc7Result, bc7Endpoint_eq]
  simp only [Spec.bc7Dr, bc7Raw_eq, hpb, hns', indexList_eq_unpack hn, BitVec.ofNat_toNat]
  rfl

/-- P-bits per endpoint (rule R222): the list the mode has. -/
theorem pbit_eq_getElem? {n : Nat} (p : Vector (BitVec 1) n) (e : Nat) :
    (if h : e < n then some p[e] else none) = p.toList[e]? := by
  split_ifs with h <;> simp [h]

/-- P-bits per subset (rule R222, mode 1). -/
theorem pbit_eq_perSubset (p : Vector (BitVec 1) 2) (e : Nat) :
    (if e < 2 then some p[0] else if e < 4 then some p[1] else none) = (pbitsPerSubset p)[e]? := by
  match e with
  | 0 | 1 | 2 | 3 => rfl
  | e + 4 => simp [pbitsPerSubset]

/-- A BC7 block delivers the result the rules write, once it is the core's. -/
theorem execDecodable_bc7 (h : Decoding s) (b : List (Fin 15)) {d d' : DecodeResult} (hd : d = d') :
    execDecodable b d s = .next (Spec.delivered d' s) := hd ▸ execDecodable_decoding h b d

/-- Settles O22: the modes differ in their P-bits, their index widths and their second index lists. -/
theorem bc7Decoded : Obligations.Bc7Decoded := by
  intro s h
  have hnone : ∀ e, (none : Option (BitVec 1)) = ([] : List (BitVec 1))[e]? := fun _ => List.getElem?_nil.symm
  refine ⟨fun f => ?_, fun f => ?_, fun f => ?_, fun f => ?_, fun f => ?_, fun f => ?_, fun f => ?_, fun f => ?_⟩
  · exact execDecodable_bc7 h _ (bc7Result_eq 0 2 3 _ f (pbit_eq_getElem? f.p) (by decide) (by decide))
  · exact execDecodable_bc7 h _ (bc7Result_eq 1 1 3 _ f (pbit_eq_perSubset f.p) (by decide) (by decide))
  · exact execDecodable_bc7 h _ (bc7Result_eq 2 2 2 _ f hnone (by decide) (by decide))
  · exact execDecodable_bc7 h _ (bc7Result_eq 3 1 2 _ f (pbit_eq_getElem? f.p) (by decide) (by decide))
  · rw [indexList_eq_unpack (show 3 ≤ 4 by decide)]
    exact execDecodable_bc7 h _ (bc7Result_eq 4 0 2 _ f hnone (by decide) (by decide))
  · rw [indexList_eq_unpack (show 2 ≤ 4 by decide)]
    exact execDecodable_bc7 h _ (bc7Result_eq 5 0 2 _ f hnone (by decide) (by decide))
  · exact execDecodable_bc7 h _ (bc7Result_eq 6 0 4 _ f (pbit_eq_getElem? f.p) (by decide) (by decide))
  · exact execDecodable_bc7 h _ (bc7Result_eq 7 1 2 _ f (pbit_eq_getElem? f.p) (by decide) (by decide))

/-- Settles O23: each reserved kind hands the error entry to a DECODE. -/
theorem reservedBlocksRaise : Obligations.ReservedBlocksRaise := fun _ h =>
  ⟨fun _ => fetchedBlock_decoding h, fun _ => fetchedBlock_decoding h, fun _ => fetchedBlock_decoding h,
    fun _ => fetchedBlock_decoding h, fun _ => fetchedBlock_decoding h⟩

end Sys2Proof.Machine
end

section
/-!
The effects of the commands (spec/46_commands.md sections 1 and 2): a short list, from which the descriptor, the parameters
and the memory choose.
-/
namespace Sys2Proof.Machine

variable {s s' t t' : State} {i : Instr}

/-! ## The effects of a command -/

/-- What a command does before its checks. -/
def prepare : Instr → State → State
  | .classify => startAccumulator
  | .decode => setDecv false
  | .stats => startStatistics
  | .extract | .sext | .fixup | .isfix => setXv false
  | _ => id

/-- The effects a command can have after the command-start actions (rules R313 to R318). -/
inductive StartEffect : Instr → (State → State) → Prop
  | raise {i : Instr} (e : ErrCode) (x : Word64) (he : e ≠ .none) : StartEffect i fun s => raiseError e x (prepare i s)
  | walk (empty : Bool) : StartEffect .classify fun s => startWalk empty (startAccumulator s)
  | fetch : StartEffect .decode (setDecv false)
  | reduce : StartEffect .stats fun s => startPixelPass .pass1 (startStatistics s)
  | finish {i : Instr} (hi : i ∈ [Instr.extract, .sext, .fixup, .isfix]) (v : Word64) : StartEffect i (finishX v)

/-- The effect of a command is one that its inputs alone choose. -/
def HasEffect (i : Instr) (cr : CtrlRegs) (p : Params) (m : Memory) (f : State → State) : Prop :=
  StartEffect i f ∧ ∀ s : State, s.cr = cr → s.params = p → s.mem = m → commandAct i s = f s

theorem hasEffect_classify (cr : CtrlRegs) (p : Params) (m : Memory) : ∃ f, HasEffect .classify cr p m f := by
  cases hf : Format.ofTag cr.fmt with
  | none =>
    refine ⟨_, .raise .unsupportedFormat (cr.fmt.setWidth 64) (by decide), ?_⟩
    rintro s rfl rfl rfl
    exact withFormat_unsupported (s := startAccumulator s) hf
  | some fmt =>
    by_cases hb : cr.base = 0
    · refine ⟨_, .raise .nullBuffer 0 (by decide), ?_⟩
      rintro s rfl rfl rfl
      exact withFormat_null (s := startAccumulator s) hf hb
    · refine ⟨_, .walk (decide (nrows cr = 0 ∨ ncols p cr fmt.nblk = 0)), ?_⟩
      rintro s rfl rfl rfl
      exact withFormat_supported (s := startAccumulator s) hf hb

theorem hasEffect_decode (cr : CtrlRegs) (p : Params) (m : Memory) : ∃ f, HasEffect .decode cr p m f := by
  cases hf : Format.ofTag cr.fmt with
  | none =>
    refine ⟨_, .raise .unsupportedFormat (cr.fmt.setWidth 64) (by decide), ?_⟩
    rintro s rfl rfl rfl
    exact withFormat_unsupported (s := setDecv false s) hf
  | some fmt =>
    by_cases hb : cr.base = 0
    · refine ⟨_, .raise .nullBuffer 0 (by decide), ?_⟩
      rintro s rfl rfl rfl
      exact withFormat_null (s := setDecv false s) hf hb
    · obtain hx | hx := le_or_gt (ncols p cr fmt.nblk) cr.bX.toNat
      · refine ⟨_, .raise .illegalOperand 5 (by decide), ?_⟩
        rintro s rfl rfl rfl
        exact decodeAct_column hf hb hx
      · obtain hy | hy := le_or_gt (nrows cr) cr.bY.toNat
        · refine ⟨_, .raise .illegalOperand 6 (by decide), ?_⟩
          rintro s rfl rfl rfl
          exact decodeAct_row hf hb hx hy
        · refine ⟨_, .fetch, ?_⟩
          rintro s rfl rfl rfl
          exact decodeAct_legal hf hb hx hy

theorem hasEffect_stats (cr : CtrlRegs) (p : Params) (m : Memory) : ∃ f, HasEffect .stats cr p m f := by
  by_cases hb : cr.base = 0
  · refine ⟨_, .raise .nullBuffer 0 (by decide), ?_⟩
    rintro s rfl rfl rfl
    exact if_pos hb
  · by_cases hn : cr.width * cr.height = 0
    · refine ⟨_, .raise .emptyInput 0 (by decide), ?_⟩
      rintro s rfl rfl rfl
      exact (if_neg hb).trans (if_pos hn)
    · refine ⟨_, .reduce, ?_⟩
      rintro s rfl rfl rfl
      exact (if_neg hb).trans (if_neg hn)

theorem hasEffect_extract (cr : CtrlRegs) (p : Params) (m : Memory) : ∃ f, HasEffect .extract cr p m f := by
  cases hf : Format.ofTag cr.fmt with
  | none =>
    refine ⟨_, .raise .unsupportedFormat (cr.fmt.setWidth 64) (by decide), ?_⟩
    rintro s rfl rfl rfl
    exact withFormat_unsupported (s := setXv false s) hf
  | some fmt =>
    by_cases hb : cr.base = 0
    · refine ⟨_, .raise .nullBuffer 0 (by decide), ?_⟩
      rintro s rfl rfl rfl
      exact withFormat_null (s := setXv false s) hf hb
    · obtain hw | hw := lt_or_ge 64 cr.op1.toNat
      · refine ⟨_, .raise .illegalOperand 8 (by decide), ?_⟩
        rintro s rfl rfl rfl
        exact extractAct_width hf hb hw
      · obtain he | he := lt_or_ge (8 * fmt.nblk) (cr.op0.toNat + cr.op1.toNat)
        · refine ⟨_, .raise .illegalOperand 7 (by decide), ?_⟩
          rintro s rfl rfl rfl
          exact extractAct_end hf hb hw he
        · refine ⟨_, .finish (by decide) (extractValue { State.reset with cr := cr, mem := m } fmt), ?_⟩
          rintro s rfl rfl rfl
          exact extractAct_legal hf hb hw he

theorem hasEffect_sext (cr : CtrlRegs) (p : Params) (m : Memory) : ∃ f, HasEffect .sext cr p m f := by
  by_cases hk : cr.op0.toNat = 0 ∨ 64 < cr.op0.toNat
  · refine ⟨_, .raise .illegalOperand 7 (by decide), ?_⟩
    rintro s rfl rfl rfl
    exact sextAct_width hk
  · obtain hraw | hraw := lt_or_ge cr.op1.toNat (2 ^ cr.op0.toNat)
    · refine ⟨_, .finish (by decide) (BitVec.ofInt 64 (sextInt cr.op0.toNat cr.op1.toNat)), ?_⟩
      rintro s rfl rfl rfl
      exact sextAct_legal (by omega) (by omega) hraw
    · refine ⟨_, .raise .illegalOperand 8 (by decide), ?_⟩
      rintro s rfl rfl rfl
      refine sextAct_raw (by omega) (lt_of_le_of_ne (by omega) fun h64 => ?_) hraw
      rw [h64] at hraw
      exact absurd hraw (not_le.2 s.cr.op1.isLt)

theorem commandAct_fixup : commandAct .fixup = withTableOperands 2 fun p t q => BitVec.ofNat 64 (fixupEntry p t q) := rfl

theorem commandAct_isfix : commandAct .isfix = withTableOperands 15 fun p t j => BitVec.ofNat 64 (isfix p t j).toNat := rfl

/-- FIXUP and ISFIX differ in their last operand's bound and in the table they read. -/
theorem hasEffect_withTableOperands (hi : i ∈ [Instr.fixup, .isfix]) {m : Nat} {v : Nat → Nat → Nat → Word64}
    (hact : commandAct i = withTableOperands m v) (cr : CtrlRegs) (p : Params) (mem : Memory) : ∃ f, HasEffect i cr p mem f := by
  have hprep : prepare i = setXv false := by
    simp only [List.mem_cons, List.not_mem_nil, or_false] at hi
    obtain rfl | rfl := hi <;> rfl
  have hraise : ∀ r, (∀ s : State, s.cr = cr → withTableOperands m v s = illegalOperand r (setXv false s)) →
      ∃ f, HasEffect i cr p mem f := fun r h =>
    ⟨_, .raise .illegalOperand r (by decide), fun s hcr _ _ => by rw [hact, h s hcr, hprep]; rfl⟩
  obtain h0 | h0 := lt_or_ge 2 cr.op0.toNat
  · refine hraise 7 ?_
    rintro s rfl
    exact withTableOperands_op0 h0
  · obtain h1 | h1 := lt_or_ge 63 cr.op1.toNat
    · refine hraise 8 ?_
      rintro s rfl
      exact withTableOperands_op1 h0 h1
    · obtain h2 | h2 := lt_or_ge m cr.op2.toNat
      · refine hraise 9 ?_
        rintro s rfl
        exact withTableOperands_op2 h0 h1 h2
      · refine ⟨_, .finish (List.mem_cons_of_mem _ (List.mem_cons_of_mem _ hi)) (v cr.op0.toNat cr.op1.toNat cr.op2.toNat), ?_⟩
        rintro s rfl rfl rfl
        rw [hact]
        exact withTableOperands_legal h0 h1 h2

/-- Every command has one of the effects (rule R310). -/
theorem exists_hasEffect (h : isCommand i = true) (cr : CtrlRegs) (p : Params) (m : Memory) : ∃ f, HasEffect i cr p m f := by
  cases i with
  | classify => exact hasEffect_classify cr p m
  | decode => exact hasEffect_decode cr p m
  | stats => exact hasEffect_stats cr p m
  | extract => exact hasEffect_extract cr p m
  | sext => exact hasEffect_sext cr p m
  | fixup => exact hasEffect_withTableOperands (by decide) commandAct_fixup cr p m
  | isfix => exact hasEffect_withTableOperands (by decide) commandAct_isfix cr p m
  | cmdIllegal0 => exact ⟨_, .raise .illegalOperand _ (by decide), fun _ _ _ _ => rfl⟩
  | cmdIllegal8to15 code => exact ⟨_, .raise .illegalOperand _ (by decide), fun _ _ _ _ => rfl⟩
  | _ => nomatch h

/-- A command's start step, when it gives a next state. -/
theorem exec_command_effect (h : isCommand i = true) (he : exec i s = .next t) :
    Ready s ∧ ∃ f, HasEffect i s.cr s.params s.mem f ∧ t = f (startCommand (commandCode i) s) := by
  obtain ⟨hr, rfl⟩ := (exec_command_eq_next h).1 he
  obtain ⟨f, hf⟩ := exists_hasEffect h s.cr s.params s.mem
  exact ⟨hr, f, hf, hf.2 _ rfl rfl rfl⟩

end Sys2Proof.Machine
end

section
/-!
Blocks in a pass (spec/44_classifier.md sections 1 and 2): every block kind is a fetched block with a list of buckets of
its own, and the list is that of rules R254 to R261.
-/
namespace Sys2Proof.Machine

variable {s t : State} {i : Instr} {fmt : Format}

/-! ## Every block kind -/

/-- The buckets of a block kind (rules R254 to R261); none for a command. -/
def bucketsOf (p : Params) : Instr → List (Fin 15)
  | .bc1 c0 c1 _ => [lowBucket (transparent c0 c1)]
  | .bc2 .. => bc2Buckets p
  | .bc3 a0 a1 .. => [lowBucket (sixvalueU a0 a1)]
  | .bc4u e0 e1 _ => [lowBucket (sixvalueU e0 e1)]
  | .bc4s e0 e1 _ => [lowBucket (sixvalueS e0 e1)]
  | .bc5u ue0 ue1 _ ve0 ve1 _ => [lowBucket (sixvalueU ue0 ue1), highBucket (sixvalueU ve0 ve1)]
  | .bc5s ue0 ue1 _ ve0 ve1 _ => [lowBucket (sixvalueS ue0 ue1), highBucket (sixvalueS ve0 ve1)]
  | .bc6hM1 _ => [0]
  | .bc6hM2 _ => [1]
  | .bc6hM3 _ => [2]
  | .bc6hM4 _ => [3]
  | .bc6hM5 _ => [4]
  | .bc6hM6 _ => [5]
  | .bc6hM7 _ => [6]
  | .bc6hM8 _ => [7]
  | .bc6hM9 _ => [8]
  | .bc6hM10 _ => [9]
  | .bc6hM11 _ => [10]
  | .bc6hM12 _ => [11]
  | .bc6hM13 _ => [12]
  | .bc6hM14 _ => [13]
  | .bc6hRsvd13 _ | .bc6hRsvd17 _ | .bc6hRsvd1B _ | .bc6hRsvd1F _ => [14]
  | .bc7M0 _ => [0]
  | .bc7M1 _ => [1]
  | .bc7M2 _ => [2]
  | .bc7M3 _ => [3]
  | .bc7M4 _ => [4]
  | .bc7M5 _ => [5]
  | .bc7M6 _ => [6]
  | .bc7M7 _ => [7]
  | .bc7Rsvd _ => [8]
  | _ => []

/-- What a block does under DECODE: it delivers a result or raises ReservedModeEncountered (rules R108, R313). -/
def IsDecodeEnd (f : State → State) : Prop := (∃ d, f = deliver d) ∨ ∃ x, f = raiseError .reservedModeEncountered x

theorem exec_block (h : isCommand i = false) (s : State) :
    ∃ f, IsDecodeEnd f ∧ exec i s = fetchedBlock (bucketsOf s.params i) f s := by
  cases i with
  | classify | decode | stats | extract | sext | fixup | isfix | cmdIllegal0 | cmdIllegal8to15 code => nomatch h
  | bc6hRsvd13 rest | bc6hRsvd17 rest | bc6hRsvd1B rest | bc6hRsvd1F rest | bc7Rsvd rest => exact ⟨_, .inr ⟨_, rfl⟩, rfl⟩
  | _ => exact ⟨_, .inl ⟨_, rfl⟩, rfl⟩

/-- Everything the execution of a block can do. -/
theorem exec_block_eq_next (h : isCommand i = false) : exec i s = .next t →
    (Dispatching s ∧ t = dispatchBlock (bucketsOf s.params i) s) ∨ (Decoding s ∧ ∃ f, IsDecodeEnd f ∧ t = f s) := by
  obtain ⟨f, hf, he⟩ := exec_block h s
  rw [he, fetchedBlock_eq_next]
  rintro (ht | ⟨hd, ht⟩)
  · exact .inl ht
  · exact .inr ⟨hd, f, hf, ht⟩

theorem exec_block_dispatching (h : isCommand i = false) (hs : Dispatching s) :
    exec i s = .next (dispatchBlock (bucketsOf s.params i) s) := by
  obtain ⟨f, -, he⟩ := exec_block h s
  rw [he, fetchedBlock_dispatching hs]

theorem exec_block_decoding (h : isCommand i = false) (hs : Decoding s) : ∃ f, IsDecodeEnd f ∧ exec i s = .next (f s) := by
  obtain ⟨f, hf, he⟩ := exec_block h s
  exact ⟨f, hf, by rw [he, fetchedBlock_decoding hs]⟩

theorem isCommand_of_mem_tagsOf {tag : Nibble} (h : tag ∈ tagsOf i) : isCommand i = false := by
  cases i with
  | classify | decode | stats | extract | sext | fixup | isfix | cmdIllegal0 | cmdIllegal8to15 code => simp [tagsOf] at h
  | _ => rfl

theorem isCommand_decodeBits (fmt : Format) (B : BitVec 128) : isCommand (decodeBits fmt B) = false :=
  isCommand_of_mem_tagsOf (decodeBits_spec fmt B).2.1

theorem isCommand_decodeCommand (code : Nibble) : isCommand (decodeCommand code) = true := by
  unfold decodeCommand
  split <;> rfl

theorem commandCode_decodeCommand (code : Nibble) : commandCode (decodeCommand code) = code := by
  revert code
  decide

/-- Settles O56: a command's meaning asks that none runs, a block's that one of the two fetches it. -/
theorem stopsOutsideAPass : Obligations.StopsOutsideAPass := by
  refine fun i s => ⟨fun hc hp => ?_, fun hb hd hdec => ?_⟩
  · rw [exec_command hc, runCommand_running hp]
  · obtain ⟨f, -, he⟩ := exec_block hb s
    rw [he, fetchedBlock, if_neg fun h => hd ⟨⟨h.1, h.2.1⟩, h.2.2⟩, 
      if_neg (show ¬ (s.status.phase = .run ∧ s.hs.cmd = 2) from hdec)]

/-! ## The bucket lists of the rules -/

theorem slice_eq_toNat_field (B : BitVec 128) (off w : Nat) (hw : 0 < w) :
    Spec.slice B (off + w - 1) off = (field B off w).toNat := by
  rw [Spec.slice, field, BitVec.extractLsb'_toNat, Nat.shiftRight_eq_div_pow, show off + w - 1 - off + 1 = w by omega]

theorem sext8_toNat (x : BitVec 8) : Spec.sext8 x.toNat = x.toInt := by
  revert x
  decide

theorem val_lowBucket_decide (q : Prop) [Decidable q] : (lowBucket (decide q)).val = if q then 1 else 0 := by
  by_cases h : q <;> simp [h, lowBucket]

theorem val_lowBucket_not_decide (q : Prop) [Decidable q] : (lowBucket (!decide q)).val = if q then 0 else 1 := by
  by_cases h : q <;> simp [h, lowBucket]

theorem val_highBucket_not_decide (q : Prop) [Decidable q] : (highBucket (!decide q)).val = 2 + if q then 0 else 1 := by
  by_cases h : q <;> simp [h, highBucket]

theorem bc4Bucket_unsigned (B : BitVec 128) (o : Nat) :
    Spec.bc4Bucket false B o = if (field B (o + 8) 8).toNat < (field B o 8).toNat then 0 else 1 := by
  have h0 := slice_eq_toNat_field B o 8 (by decide)
  have h1 := slice_eq_toNat_field B (o + 8) 8 (by decide)
  rw [show o + 8 - 1 = o + 7 by omega] at h0
  rw [show o + 8 + 8 - 1 = o + 15 by omega] at h1
  rw [Spec.bc4Bucket, h0, h1]
  rfl

theorem bc4Bucket_signed (B : BitVec 128) (o : Nat) :
    Spec.bc4Bucket true B o = if (field B (o + 8) 8).toInt < (field B o 8).toInt then 0 else 1 := by
  have h0 := slice_eq_toNat_field B o 8 (by decide)
  have h1 := slice_eq_toNat_field B (o + 8) 8 (by decide)
  rw [show o + 8 - 1 = o + 7 by omega] at h0
  rw [show o + 8 + 8 - 1 = o + 15 by omega] at h1
  rw [Spec.bc4Bucket, h0, h1, sext8_toNat, sext8_toNat]
  rfl

/-- The bucket of a BC6H kind (rule R260). -/
def bc6hBucket : Bc6hKind → Fin 15
  | .m1 => 0
  | .m2 => 1
  | .m3 => 2
  | .m4 => 3
  | .m5 => 4
  | .m6 => 5
  | .m7 => 6
  | .m8 => 7
  | .m9 => 8
  | .m10 => 9
  | .m11 => 10
  | .m12 => 11
  | .m13 => 12
  | .m14 => 13
  | .rsvd13 | .rsvd17 | .rsvd1B | .rsvd1F => 14

/-- The bucket of a BC7 kind (rule R261). -/
def bc7Bucket : Bc7Kind → Fin 15
  | .m0 => 0
  | .m1 => 1
  | .m2 => 2
  | .m3 => 3
  | .m4 => 4
  | .m5 => 5
  | .m6 => 6
  | .m7 => 7
  | .rsvd => 8

theorem bucketsOf_decodeBc6h (p : Params) (B : BitVec 128) :
    bucketsOf p (decodeBc6h B) = [bc6hBucket (bc6hKind (field B 0 5))] := by
  rw [decodeBc6h]
  generalize bc6hKind (field B 0 5) = k
  cases k <;> rfl

theorem bucketsOf_decodeBc7 (p : Params) (B : BitVec 128) :
    bucketsOf p (decodeBc7 B) = [bc7Bucket (bc7Kind (field B 0 8))] := by
  rw [decodeBc7]
  generalize bc7Kind (field B 0 8) = k
  cases k <;> rfl

/-- The mode of rule R181 less one, 14 where there is none, is the bucket of the kind. -/
theorem bc6hMode_bucket (B : BitVec 128) :
    ((Spec.bc6hMode B).map (· - 1)).getD 14 = (bc6hBucket (bc6hKind (field B 0 5))).val := by
  have h2 := slice_eq_toNat_field B 0 2 (by decide)
  have h5 := slice_eq_toNat_field B 0 5 (by decide)
  rw [field_low B (show 2 ≤ 5 by decide)] at h2
  simp only [Spec.bc6hMode, Nat.zero_add, Nat.reduceSub] at h2 h5 ⊢
  rw [h2, h5]
  generalize field B 0 5 = q
  revert q
  decide

/-- The mode of rule R221, 8 where there is none, is the bucket of the kind. -/
theorem bc7Mode_bucket (B : BitVec 128) : (Spec.bc7Mode B).getD 8 = (bc7Bucket (bc7Kind (field B 0 8))).val := by
  have hbit : ∀ m, m < 8 → (decide (Spec.slice B m m = 1)) = (field B 0 8).getLsbD m := fun m hm => by
    rw [Spec.slice, getLsbD_field, ← BitVec.testBit_toNat, Nat.testBit_eq_decide_div_mod_eq, Nat.sub_self]
    simp [hm]
  have hfind : Spec.bc7Mode B = (List.range 8).find? fun m => (field B 0 8).getLsbD m :=
    List.find?_congr fun m hm => hbit m (List.mem_range.1 hm)
  rw [hfind]
  generalize field B 0 8 = q
  revert q
  decide

/-- The core's list is that of rules R254 to R261. -/
theorem map_val_bucketsOf (p : Params) (fmt : Format) (B : BitVec 128) :
    (bucketsOf p (decodeBits fmt B)).map Fin.val = Spec.buckets p fmt B := by
  cases fmt with
  | bc1 =>
    have h0 := slice_eq_toNat_field B 0 16 (by decide)
    have h1 := slice_eq_toNat_field B 16 16 (by decide)
    simp only [Nat.zero_add, Nat.reduceAdd, Nat.reduceSub] at h0 h1
    simp only [decodeBits, bucketsOf, Spec.buckets, h0, h1, transparent, List.map_cons, List.map_nil, val_lowBucket_decide]
  | bc2 =>
    simp only [decodeBits, bucketsOf, Spec.buckets, bc2Buckets]
    cases p.bc2Bucket <;> rfl
  | bc3 | bc4u =>
    exact congrArg (· :: []) ((val_lowBucket_not_decide _).trans (bc4Bucket_unsigned B 0).symm)
  | bc4s => exact congrArg (· :: []) ((val_lowBucket_not_decide _).trans (bc4Bucket_signed B 0).symm)
  | bc5u =>
    simp only [decodeBits, bucketsOf, Spec.buckets, sixvalueU, List.map_cons, List.map_nil, val_lowBucket_not_decide,
      val_highBucket_not_decide, bc4Bucket_unsigned, Nat.zero_add, Nat.reduceAdd]
  | bc5s =>
    simp only [decodeBits, bucketsOf, Spec.buckets, sixvalueS, List.map_cons, List.map_nil, val_lowBucket_not_decide,
      val_highBucket_not_decide, bc4Bucket_signed, Nat.zero_add, Nat.reduceAdd]
  | bc6hu | bc6hs =>
    simp only [decodeBits, bucketsOf_decodeBc6h, Spec.buckets, bc6hMode_bucket, List.map_cons, List.map_nil]
  | bc7 => simp only [decodeBits, bucketsOf_decodeBc7, Spec.buckets, bc7Mode_bucket, List.map_cons, List.map_nil]

/-- Settles O24: at DISPATCH a block of any kind puts its own list away. -/
theorem blockClassified : Obligations.BlockClassified := fun fmt B s hs =>
  ⟨_, map_val_bucketsOf s.params fmt B, exec_block_dispatching (isCommand_decodeBits fmt B) hs⟩

end Sys2Proof.Machine
end

section
/-!
The steps of a running command (spec/44_classifier.md rule R266, spec/46_commands.md rule R313): the block each of them
fetches, and the two transitions of a pass that fetch none.
-/
namespace Sys2Proof.Machine

variable {s t : State} {i : Instr} {fmt : Format}

/-! ## Which step it is -/

theorem step_running (hn : ¬ resetNow s) (hr : s.status.phase = .run) : step s = coreStep (tickReset s) := by
  obtain ⟨h, _⟩ | ⟨_, _, hstep⟩ | ⟨_, h, _⟩ | ⟨_, h, _⟩ := step_cases s
  · exact absurd h hn
  · exact hstep
  · exact absurd hr h
  · exact absurd hr h

theorem step_command {code : Nibble} (hn : ¬ resetNow s) (hr : Ready s) (hc : s.crCmd = some code) :
    step s = exec (decodeCommand code) s := by
  obtain ⟨h, _⟩ | ⟨_, h, _⟩ | ⟨_, _, code', hc', hstep⟩ | ⟨_, _, hc', _⟩ := step_cases s
  · exact absurd h hn
  · exact absurd h hr
  · obtain rfl : code = code' := Option.some.inj (hc.symm.trans hc')
    exact hstep
  · simp [hc] at hc'

theorem not_resetNow_of_noResetNext (h : noResetNext s) : ¬ resetNow s := fun ⟨rest, hr⟩ => h 0 rest hr

/-- A tick changes the inbox alone. -/
theorem tickReset_eta (s : State) : tickReset s = { s with inbox := (tickReset s).inbox } := by
  obtain ⟨ib, h⟩ := tickReset_eq s
  rw [h]

theorem classifyStep_dispatch (hs : s.hs.step = .dispatch) (he : s.exhausted = false) : classifyStep s = blockStep s := by
  simp [classifyStep, hs, he]

theorem coreStep_cmd1 (h : s.hs.cmd = 1) : coreStep s = classifyStep s := if_pos h

theorem coreStep_cmd2 (h : s.hs.cmd = 2) : coreStep s = blockStep s := by
  rw [coreStep, if_neg (by rw [h]; decide), if_pos h]

theorem coreStep_cmd3 (h : s.hs.cmd = 3) : coreStep s = statsStep s := by
  rw [coreStep, if_neg (by rw [h]; decide), if_neg (by rw [h]; decide), if_pos h]

/-- A block fetch: the core's step while a pass is at DISPATCH within bounds or a DECODE runs. -/
theorem coreStep_fetch (h : Dispatching s ∨ Decoding s) : coreStep s = blockStep s := by
  obtain ⟨⟨_, hcmd⟩, hstep, he⟩ | ⟨_, hcmd⟩ := h
  · rw [coreStep_cmd1 hcmd, classifyStep_dispatch hstep he]
  · exact coreStep_cmd2 hcmd

/-! ## The fetch -/

theorem nblk?_of_ofTag (hf : Format.ofTag s.cr.fmt = some fmt) : nblk? s.cr = some fmt.nblk := by
  rw [nblk?, hf]
  rfl

theorem colsOf_of_ofTag (hf : Format.ofTag s.cr.fmt = some fmt) : colsOf s = ncols s.params s.cr fmt.nblk := by
  rw [colsOf, nblk?_of_ofTag hf]
  rfl

theorem fetchBytes_of_nblk {n : Nat} (h : nblk? s.cr = some n) : fetchBytes s = memBytes s.mem (fetchAddr s n) n := by
  simp only [fetchBytes, h]

theorem fetchAddr_eq (s : State) (n : Nat) : fetchAddr s n =
    if s.hs.cmd = 1 then blockAddr s.cr n s.hs.bY.toNat s.hs.bX.toNat else blockAddr s.cr n s.cr.bY.toNat s.cr.bX.toNat := rfl

/-- The block at an address of rule R62, as bytes in memory. -/
theorem blockOfBytes_memBytes (s : State) (n bY bX : Nat) :
    blockOfBytes (memBytes s.mem (blockAddr s.cr n bY bX) n) = Spec.block s n bY bX :=
  congrArg (BitVec.ofNat 128) (memRead_eq_readLE s.mem n _)

/-- Under a supported tag the bytes fetched always decode (rule R107). -/
theorem blockStep_eq (hf : Format.ofTag s.cr.fmt = some fmt) :
    blockStep s = exec (decodeBits fmt (blockOfBytes (fetchBytes s))) s := by
  have hlen : (fetchBytes s).length = fmt.nblk := by rw [fetchBytes_of_nblk (nblk?_of_ofTag hf), memBytes_length]
  rw [blockStep, decodeInstr, decodeBlock_of_length hf hlen]

theorem blockStep_classifying (hf : Format.ofTag s.cr.fmt = some fmt) (hc : s.hs.cmd = 1) :
    blockStep s = exec (decodeBits fmt (Spec.block s fmt.nblk s.hs.bY.toNat s.hs.bX.toNat)) s := by
  rw [blockStep_eq hf, fetchBytes_of_nblk (nblk?_of_ofTag hf), fetchAddr_eq, if_pos hc, blockOfBytes_memBytes]

theorem blockStep_decoding (hf : Format.ofTag s.cr.fmt = some fmt) (hc : s.hs.cmd = 2) :
    blockStep s = exec (decodeBits fmt (Spec.block s fmt.nblk s.cr.bY.toNat s.cr.bX.toNat)) s := by
  rw [blockStep_eq hf, fetchBytes_of_nblk (nblk?_of_ofTag hf), fetchAddr_eq, if_neg (by rw [hc]; decide),
    blockOfBytes_memBytes]

/-- Settles O4: the byte of a code decodes to its command. -/
theorem stepRunsCommand : Obligations.StepRunsCommand := by
  intro s code i hn hr hc hi
  have hlow : (code.setWidth 8).setWidth 4 = code := by simp
  rw [decodeInstr, hlow, Except.ok.injEq] at hi
  rw [step_command hn hr hc, hi]

/-- Settles O5: the tick leaves everything that the fetch reads. -/
theorem stepRunsBlock : Obligations.StepRunsBlock := by
  intro s n i hn hfetch hnblk _ hi
  have hrun : s.status.phase = .run := hfetch.elim (fun h => h.1.1) fun h => h.1
  have hstep : step s = exec i (tickReset s) := by
    rw [step_running hn hrun, tickReset_eta]
    rw [coreStep_fetch (s := { s with inbox := (tickReset s).inbox }) hfetch, blockStep,
      fetchBytes_of_nblk (s := { s with inbox := (tickReset s).inbox }) hnblk, fetchAddr_eq, hi]
  exact ⟨hstep, fun h => by rw [hstep, tickReset_of_noResetNext h]⟩

/-! ## Counting -/

theorem getElem_bumpBucket (h : Vector Word64 15) (j k : Fin 15) :
    (bumpBucket h j)[k] = h[k] + if j = k then 1 else 0 := by
  simp only [bumpBucket, Fin.getElem_fin, Vector.getElem_set, Fin.val_inj]
  split_ifs with hjk
  · rw [hjk]
  · simp

/-- A bucket grows by the number of times the list names it (rule R253). -/
theorem getElem_foldl_bumpBucket (k : Fin 15) : ∀ (L : List (Fin 15)) (h : Vector Word64 15),
    (L.foldl bumpBucket h)[k] = h[k] + BitVec.ofNat 64 (L.count k)
  | [], h => by simp
  | j :: L, h => by
    rw [List.foldl_cons, getElem_foldl_bumpBucket k L, getElem_bumpBucket, List.count_cons, BitVec.ofNat_add, BitVec.add_assoc,
      BitVec.add_comm (BitVec.ofNat 64 _)]
    by_cases hjk : j = k <;> simp [hjk]

theorem walkCols_eq_colsOf (s : State) : walkCols s = colsOf s := rfl

theorem coreStep_accumulating (h : Accumulating s) : coreStep s = .next (accumStep s) := by
  obtain ⟨⟨_, hcmd⟩, hstep⟩ := h
  simp [coreStep_cmd1 hcmd, classifyStep, hstep]

theorem coreStep_passExhausted (h : PassExhausted s) : coreStep s = .next (endPass s) := by
  obtain ⟨⟨_, hcmd⟩, hstep, he⟩ := h
  simp [coreStep_cmd1 hcmd, classifyStep, hstep, he]

/-- Settles O25: the three cases of the cursor's advance, and the end of the pass. -/
theorem passTransitions : Obligations.PassTransitions := by
  refine fun s hn => ⟨fun h => ?_, fun h => ?_⟩
  · have hstep : step s = .next (accumStep { s with inbox := (tickReset s).inbox }) := by
      rw [step_running hn h.1.1, tickReset_eta]
      exact coreStep_accumulating h
    refine ⟨_, hstep, ?_⟩
    have hcount := fun k => getElem_foldl_bumpBucket k s.buckets s.hist
    obtain ⟨hx, e⟩ | ⟨hx, hy, e⟩ | ⟨hx, hy, e⟩ := accumStep_cases { s with inbox := (tickReset s).inbox }
    all_goals
      rw [e]
      simp only [walkCols_eq_colsOf, colsOf] at hx ⊢
    · exact ⟨rfl, hcount, rfl, rfl, fun _ => ⟨rfl, rfl⟩, fun h => absurd h (by omega), fun h => absurd h (by omega), rfl, rfl,
        rfl, rfl, rfl, rfl, rfl, rfl, rfl, rfl⟩
    · exact ⟨rfl, hcount, rfl, rfl, fun h => absurd h (by omega), fun _ _ => ⟨rfl, rfl⟩, fun _ h => absurd h (not_le.2 hy),
        rfl, rfl, rfl, rfl, rfl, rfl, rfl, rfl, rfl, rfl⟩
    · exact ⟨rfl, hcount, rfl, rfl, fun h => absurd h (by omega), fun _ h => absurd h (not_lt.2 hy), fun _ _ => ⟨rfl, rfl⟩,
        rfl, rfl, rfl, rfl, rfl, rfl, rfl, rfl, rfl, rfl⟩
  · rw [step_running hn h.1.1, tickReset_eta]
    exact coreStep_passExhausted h

/-- Settles O26: a reserved kind is dispatched with its one bucket, and ACCUM counts it wherever the cursor goes. -/
theorem reservedBlocksCounted : Obligations.ReservedBlocksCounted := by
  intro s i k hs hn hi
  have hexec : exec i s = .next (dispatchBlock [k] s) := by
    obtain ⟨rfl, rest, rfl | rfl | rfl | rfl⟩ | ⟨rfl, rest, rfl⟩ := hi <;> exact fetchedBlock_dispatching hs
  have hacc : Accumulating (dispatchBlock [k] s) := ⟨hs.1, rfl⟩
  have hn' : noResetNext (dispatchBlock [k] s) := hn
  have hstep : step (dispatchBlock [k] s) = .next (accumStep (dispatchBlock [k] s)) := by
    rw [step_running (not_resetNow_of_noResetNext hn') hacc.1.1, tickReset_of_noResetNext hn', coreStep_accumulating hacc]
  refine ⟨hexec, _, hstep, ?_⟩
  obtain ⟨_, e⟩ | ⟨_, _, e⟩ | ⟨_, _, e⟩ := accumStep_cases (dispatchBlock [k] s) <;> rw [e] <;>
    exact ⟨rfl, rfl, rfl, rfl, rfl, rfl, rfl, rfl, rfl, rfl, rfl, rfl, rfl⟩

/-! ## Runs -/

theorem run_succ_of_step (M : Host.Core) {s t : M.State} (k : Nat) (h : M.step s = .next t) : M.run (k + 1) s = M.run k t := by
  rw [Host.Core.run, h]

theorem run_one_eq_step (M : Host.Core) (s : M.State) : M.run 1 s = M.step s := by
  rw [Host.Core.run]
  cases M.step s <;> rfl

theorem run_succ (k : Nat) (h : step s = .next t) : Sys2Proof.core.run (k + 1) s = Sys2Proof.core.run k t :=
  run_succ_of_step Sys2Proof.core k h

theorem run_one (s : State) : Sys2Proof.core.run 1 s = step s := run_one_eq_step Sys2Proof.core s

/-- Settles O31: the start step of O30, then the fetch. -/
theorem decodeTransaction : Obligations.DecodeTransaction := by
  intro s fmt hr hn hc hf hb hx hy
  have hstart := (step_command (not_resetNow_of_noResetNext hn) hr hc).trans (decodeStarts s fmt hr hf hb hx hy)
  rw [run_succ 1 hstart, run_one]
  generalize hs' : State.mk _ _ _ _ _ _ _ _ _ _ _ _ _ _ _ _ = s'
  have hn' : noResetNext s' := by subst hs'; exact hn
  have hd : Decoding s' := by subst hs'; exact ⟨rfl, rfl⟩
  rw [step_running (not_resetNow_of_noResetNext hn') hd.1, tickReset_of_noResetNext hn', coreStep_cmd2 hd.2,
    blockStep_decoding (fmt := fmt) (by subst hs'; exact hf) hd.2]
  subst hs'
  rfl

end Sys2Proof.Machine
end

section
/-!
The invariant of the machine (spec/10_state.md sections 3 and 5, spec/44_classifier.md section 3): from a state that meets
it every step gives a next state, and one that meets it.
-/
namespace Sys2Proof.Machine

variable {s t : State} {i : Instr} {fmt : Format}

/-! ## States in which no command runs -/

/-- Outside `RUN` the invariant speaks of the memory, the two fields of a pass and the flags in `NONE`. -/
theorem inv_of_ready (hr : Ready s) (hm : Memory.wf s.mem = true) (he : s.exhausted = false) (hb : s.buckets = [])
    (hf : s.status.phase = .none → s.status.err = .none ∧ s.einfo = 0 ∧ s.status.histv = false
      ∧ s.status.statv = false ∧ s.status.decv = false ∧ s.status.xv = false) : Inv s where
  memWf := hm
  runCmd h := absurd h hr
  runClean h := absurd h hr
  classifying h := absurd h.1 hr
  inWalk h := absurd h.1 hr
  pastWalk h := by simp [he] at h
  listed h := absurd hb h
  decoding h := absurd h.1 hr
  reducing h := absurd h.1 hr
  fresh := hf

theorem inv_of_terminal (hp : t.status.phase = .terminal) (hm : Memory.wf t.mem = true) (he : t.exhausted = false)
    (hb : t.buckets = []) : Inv t :=
  inv_of_ready (by rw [Ready, hp]; decide) hm he hb fun h => by simp [hp] at h

theorem Inv.exhausted_of_ready (h : Inv s) (hr : Ready s) : s.exhausted = false :=
  Bool.eq_false_iff.2 fun he => hr (h.pastWalk he).1.1

theorem Inv.buckets_of_ready (h : Inv s) (hr : Ready s) : s.buckets = [] :=
  by_contra fun hb => hr (h.listed hb).1.1

theorem Inv.buckets_of_step_ne (h : Inv s) (hs : s.hs.step ≠ .accum) : s.buckets = [] :=
  by_contra fun hb => hs (h.listed hb).2

theorem Inv.exhausted_of_cmd_ne (h : Inv s) (hc : s.hs.cmd ≠ 1) : s.exhausted = false :=
  Bool.eq_false_iff.2 fun he => hc (h.pastWalk he).1.2

theorem Inv.buckets_of_cmd_ne (h : Inv s) (hc : s.hs.cmd ≠ 1) : s.buckets = [] :=
  by_contra fun hb => hc (h.listed hb).1.2

/-- The end of a command between whose start and end the fields of a pass are as a ready machine has them. -/
theorem Inv.end_of_ready (h : Inv s) (hr : Ready s) (hp : t.status.phase = .terminal) (hm : t.mem = s.mem)
    (he : t.exhausted = s.exhausted) (hb : t.buckets = s.buckets) : Inv t :=
  inv_of_terminal hp (hm ▸ h.memWf) (he ▸ h.exhausted_of_ready hr) (hb ▸ h.buckets_of_ready hr)

/-- What the host has yet to do and the data of its last read are outside the invariant. -/
theorem Inv.with_inbox (h : Inv s) (ib : List HostOp) : Inv { s with inbox := ib } :=
  ⟨h.memWf, h.runCmd, h.runClean, h.classifying, h.inWalk, h.pastWalk, h.listed, h.decoding, h.reducing, h.fresh⟩

theorem inv_tickReset (h : Inv s) : Inv (tickReset s) := by
  rw [tickReset_eta]
  exact h.with_inbox _

/-! ## The host -/

theorem inv_applyReset (h : Inv s) : Inv (applyReset s) :=
  inv_of_ready (s := applyReset s) nofun h.memWf rfl rfl fun _ => ⟨rfl, rfl, rfl, rfl, rfl, rfl⟩

/-- An access of the host between commands, or a reset at any time. -/
theorem inv_serve (h : Inv s) (op : HostOp) (hop : Ready s ∨ ∃ k, op = .reset k) : Inv (serve op s) := by
  cases op with
  | reset k => exact inv_applyReset h
  | read n =>
    have hr : Ready s := hop.resolve_right nofun
    exact inv_of_ready (s := hostRead n s) hr h.memWf (h.exhausted_of_ready hr) (h.buckets_of_ready hr) h.fresh
  | write n v =>
    have hr : Ready s := hop.resolve_right nofun
    have hw : Inv { s with crCmd := some (v.setWidth 4) } ∧ ∀ cr, Inv { s with cr := cr } :=
      ⟨inv_of_ready hr h.memWf (h.exhausted_of_ready hr) (h.buckets_of_ready hr) h.fresh,
        fun cr => inv_of_ready hr h.memWf (h.exhausted_of_ready hr) (h.buckets_of_ready hr) h.fresh⟩
    rw [serve, hostWrite]
    split_ifs
    · exact hw.1
    · exact hw.2 _
  | store addr bytes =>
    have hr : Ready s := hop.resolve_right nofun
    exact inv_of_ready (s := hostStore addr bytes s) hr (wf_memStore h.memWf) (h.exhausted_of_ready hr)
      (h.buckets_of_ready hr) h.fresh

theorem inv_hostStep (h : Inv s) (hop : Ready s ∨ resetNow s) : Inv (hostStep s) := by
  unfold hostStep
  split
  · exact h
  · rename_i op rest hin
    refine inv_serve (h.with_inbox rest) op (hop.imp id fun ⟨rest', hr⟩ => ⟨0, ?_⟩)
    rw [hin] at hr
    exact (List.cons.inj hr).1

/-! ## The start of a command -/

theorem inv_classify (h : Inv s) (hr : Ready s) : Inv (classifyAct (startCommand 1 s)) := by
  obtain ⟨_, e⟩ | ⟨fmt, _, _, e⟩ | ⟨fmt, hf, hb, e⟩ := classifyAct_cases (startCommand 1 s) <;> rw [e]
  · exact h.end_of_ready hr rfl rfl rfl rfl
  · exact h.end_of_ready hr rfl rfl rfl rfl
  · have hf' : Format.ofTag s.cr.fmt = some fmt := hf
    have hcols : colsOf s = ncols s.params s.cr fmt.nblk := colsOf_of_ofTag hf'
    refine ⟨h.memWf, fun _ => .inl rfl, fun _ => ⟨rfl, rfl, hb, rfl⟩, fun _ => ⟨?_, rfl, .inl rfl⟩, fun _ he => ?_,
      fun he => ⟨⟨rfl, rfl⟩, rfl, he⟩, fun hb => absurd rfl hb, fun hd => absurd hd.2 (show (1 : Nibble) ≠ 2 by decide),
      fun hd => absurd hd.2 (show (1 : Nibble) ≠ 3 by decide), nofun⟩
    · exact Option.isSome_iff_exists.2 ⟨_, nblk?_of_ofTag hf'⟩
    · have hne : ¬ (nrows s.cr = 0 ∨ ncols s.params s.cr fmt.nblk = 0) := of_decide_eq_false he
      change 0 < nrows s.cr ∧ 0 < colsOf s
      rw [hcols]
      omega

theorem inv_decode (h : Inv s) (hr : Ready s) : Inv (decodeAct (startCommand 2 s)) := by
  obtain ⟨_, e⟩ | ⟨fmt, _, _, e⟩ | ⟨r, e⟩ | ⟨fmt, hf, hb, hx, hy, e⟩ := decodeAct_cases (startCommand 2 s) <;> rw [e]
  · exact h.end_of_ready hr rfl rfl rfl rfl
  · exact h.end_of_ready hr rfl rfl rfl rfl
  · exact h.end_of_ready hr rfl rfl rfl rfl
  · have hf' : Format.ofTag s.cr.fmt = some fmt := hf
    have hcols : colsOf s = ncols s.params s.cr fmt.nblk := colsOf_of_ofTag hf'
    have hexh := h.exhausted_of_ready hr
    refine ⟨h.memWf, fun _ => .inr (.inl rfl), fun _ => ⟨rfl, rfl, hb, rfl⟩, fun hd => absurd hd.2 (show (2 : Nibble) ≠ 1 by decide),
      fun hd => absurd hd.2 (show (2 : Nibble) ≠ 1 by decide), fun he => absurd (hexh.symm.trans he) Bool.false_ne_true,
      fun hb => absurd (h.buckets_of_ready hr) hb,
      fun _ => ⟨Option.isSome_iff_exists.2 ⟨_, nblk?_of_ofTag hf'⟩, hy, ?_, rfl⟩,
      fun hd => absurd hd.2 (show (2 : Nibble) ≠ 3 by decide), nofun⟩
    exact lt_of_lt_of_eq hx hcols.symm

theorem inv_stats (h : Inv s) (hr : Ready s) : Inv (statsAct (startCommand 3 s)) := by
  obtain ⟨_, e⟩ | ⟨_, _, e⟩ | ⟨hb, hn, e⟩ := statsAct_cases (startCommand 3 s) <;> rw [e]
  · exact h.end_of_ready hr rfl rfl rfl rfl
  · exact h.end_of_ready hr rfl rfl rfl rfl
  · have hexh := h.exhausted_of_ready hr
    have hn' : s.cr.width * s.cr.height ≠ 0 := hn
    have hpix : 0 < (s.cr.width * s.cr.height).toNat := Nat.pos_of_ne_zero fun h0 => hn' (BitVec.eq_of_toNat_eq h0)
    have hwidth : 0 < s.cr.width.toNat := Nat.pos_of_ne_zero fun h0 => hn' (by
      rw [BitVec.eq_of_toNat_eq (h0.trans BitVec.toNat_zero.symm), BitVec.zero_mul]
      rfl)
    refine ⟨h.memWf, fun _ => .inr (.inr rfl), fun _ => ⟨rfl, rfl, hb, rfl⟩, fun hd => absurd hd.2 (show (3 : Nibble) ≠ 1 by decide),
      fun hd => absurd hd.2 (show (3 : Nibble) ≠ 1 by decide), fun he => absurd (hexh.symm.trans he) Bool.false_ne_true,
      fun hb => absurd (h.buckets_of_ready hr) hb, fun hd => absurd hd.2 (show (3 : Nibble) ≠ 2 by decide),
      fun _ => ⟨.inl rfl, rfl, ?_, hwidth, rfl⟩, nofun⟩
    change 0 * s.cr.width.toNat + 0 < (s.cr.width * s.cr.height).toNat
    omega

/-- The commands that end in their start step touch neither the memory nor a field of a pass. -/
theorem inv_command (h : Inv s) (hr : Ready s) (code : Nibble) :
    Inv (commandAct (decodeCommand code) (startCommand code s)) := by
  have hcode := commandCode_decodeCommand code
  obtain ⟨f, heff, hf⟩ := exists_hasEffect (isCommand_decodeCommand code) s.cr s.params s.mem
  cases hd : decodeCommand code with
  | classify =>
    rw [hd] at hcode
    subst hcode
    exact inv_classify h hr
  | decode =>
    rw [hd] at hcode
    subst hcode
    exact inv_decode h hr
  | stats =>
    rw [hd] at hcode
    subst hcode
    exact inv_stats h hr
  | extract | sext | fixup | isfix =>
    rw [hd] at heff hf
    rw [hf (startCommand code s) rfl rfl rfl]
    cases heff <;> exact h.end_of_ready hr rfl rfl rfl rfl
  | cmdIllegal0 | cmdIllegal8to15 code => exact h.end_of_ready hr rfl rfl rfl rfl
  | _ =>
    have := isCommand_decodeCommand code
    rw [hd] at this
    nomatch this

/-! ## The steps of a running command -/

theorem toNat_add_one_of_lt {x : Word64} {n : Nat} (h : x.toNat + 1 < n) (hn : n ≤ 2 ^ 64) : (x + 1).toNat = x.toNat + 1 := by
  rw [BitVec.toNat_add]
  exact Nat.mod_eq_of_lt (by simp; omega)

/-- The bounds of a walk are numbers of 64 bits. -/
theorem nrows_le (cr : CtrlRegs) : nrows cr ≤ 2 ^ 64 := (Nat.div_le_self _ _).trans cr.height.isLt.le

theorem ncols_le (p : Params) (cr : CtrlRegs) {n : Nat} (hn : 0 < n) : ncols p cr n ≤ 2 ^ 64 := by
  unfold ncols
  cases p.colBound with
  | width => exact (Nat.div_le_self _ _).trans cr.width.isLt.le
  | pitch =>
    have hpitch := cr.pitch.isLt
    have hmul : 2 ^ 64 ≤ 2 ^ 64 * n := Nat.le_mul_of_pos_right _ hn
    refine Nat.le_of_lt_succ ((Nat.div_lt_iff_lt_mul hn).2 ?_)
    rw [Nat.succ_mul]
    omega

theorem ofTag_of_isSome_nblk? (h : (nblk? s.cr).isSome) : ∃ fmt, Format.ofTag s.cr.fmt = some fmt := by
  rw [nblk?, Option.isSome_map] at h
  exact Option.isSome_iff_exists.1 h

theorem nblk_pos (fmt : Format) : 0 < fmt.nblk := by cases fmt <;> decide

theorem colsOf_le (s : State) : colsOf s ≤ 2 ^ 64 := by
  refine ncols_le _ _ ?_
  cases h : nblk? s.cr with
  | none => exact Nat.one_pos
  | some n =>
    obtain ⟨fmt, hf⟩ := ofTag_of_isSome_nblk? (s := s) (by rw [h]; rfl)
    rw [nblk?_of_ofTag hf, Option.some.injEq] at h
    exact h ▸ nblk_pos fmt

/-- The end of a DECODE, with a result or with an error. -/
theorem decodeEnd_frame {f : State → State} (hf : IsDecodeEnd f) (s : State) :
    (f s).status.phase = .terminal ∧ (f s).mem = s.mem ∧ (f s).exhausted = s.exhausted ∧ (f s).buckets = s.buckets := by
  obtain ⟨d, rfl⟩ | ⟨x, rfl⟩ := hf <;> exact ⟨rfl, rfl, rfl, rfl⟩

/-- Inside a pass, a state of the pass that keeps what the invariant says of it. -/
theorem Inv.classifying_of (h : Inv s) (hs : Classifying s) (hcr : t.cr = s.cr) (hcmd : t.crCmd = s.crCmd)
    (hst : t.status = s.status) (hei : t.einfo = s.einfo) (hm : t.mem = s.mem) (hp : t.params = s.params)
    (hc : t.hs.cmd = s.hs.cmd) (hstep : t.hs.step = .dispatch ∨ t.hs.step = .accum)
    (hin : t.exhausted = false → t.hs.bY.toNat < nrows s.cr ∧ t.hs.bX.toNat < colsOf s)
    (hex : t.exhausted = true → t.hs.step = .dispatch) (hl : t.buckets ≠ [] → t.hs.step = .accum) : Inv t := by
  have hct : Classifying t := ⟨hst ▸ hs.1, hc ▸ hs.2⟩
  have hcols : colsOf t = colsOf s := by rw [colsOf, colsOf, hcr, hp]
  have hclean := h.runClean hs.1
  have hcl := h.classifying hs
  refine ⟨hm ▸ h.memWf, fun _ => .inl hct.2, fun _ => ?_, fun _ => ?_, fun _ he => ?_, fun he => ⟨hct, hex he, he⟩,
    fun hb => ⟨hct, hl hb⟩, fun hd => absurd (hct.2.symm.trans hd.2) (by decide),
    fun hd => absurd (hct.2.symm.trans hd.2) (by decide), fun hn => absurd (hct.1.symm.trans hn) (by decide)⟩
  · rwa [hst, hei, hcr, hcmd]
  · rw [hcr, hst]
    exact ⟨hcl.1, hcl.2.1, hstep⟩
  · rw [hcr, hcols]
    exact hin he

theorem inv_dispatchBlock (h : Inv s) (hs : Dispatching s) (L : List (Fin 15)) : Inv (dispatchBlock L s) :=
  h.classifying_of hs.1 rfl rfl rfl rfl rfl rfl rfl (.inr rfl) (fun _ => h.inWalk hs.1 hs.2.2)
    (fun he => absurd (hs.2.2.symm.trans he) Bool.false_ne_true) fun _ => rfl

theorem inv_accumStep (h : Inv s) (hs : Accumulating s) : Inv (accumStep s) := by
  have hexh : s.exhausted = false := Bool.eq_false_iff.2 fun he => by simpa [hs.2] using (h.pastWalk he).2.1
  obtain ⟨hy, hx⟩ := h.inWalk hs.1 hexh
  obtain ⟨hx', e⟩ | ⟨_, hy', e⟩ | ⟨_, _, e⟩ := accumStep_cases s <;> rw [e]
  · refine h.classifying_of hs.1 rfl rfl rfl rfl rfl rfl rfl (.inl rfl) (fun _ => ⟨hy, ?_⟩) (fun _ => rfl) fun hb => absurd rfl hb
    exact lt_of_eq_of_lt (toNat_add_one_of_lt hx' (colsOf_le s)) hx'
  · refine h.classifying_of hs.1 rfl rfl rfl rfl rfl rfl rfl (.inl rfl) (fun _ => ⟨?_, ?_⟩) (fun _ => rfl) fun hb => absurd rfl hb
    · exact lt_of_eq_of_lt (toNat_add_one_of_lt hy' (nrows_le s.cr)) hy'
    · exact lt_of_le_of_lt (Nat.zero_le _) hx
  · exact h.classifying_of hs.1 rfl rfl rfl rfl rfl rfl rfl (.inl rfl) nofun (fun _ => rfl) fun hb => absurd rfl hb

/-- A step of a CLASSIFY pass: a block, its counting, or the end. -/
theorem coreStep_classifying (h : Inv s) (hs : Classifying s) : ∃ t, coreStep s = .next t ∧ Inv t := by
  obtain ⟨hsome, _, hstep⟩ := h.classifying hs
  obtain ⟨fmt, hf⟩ := ofTag_of_isSome_nblk? hsome
  obtain hd | ha := hstep
  · cases he : s.exhausted with
    | true =>
      refine ⟨_, coreStep_passExhausted ⟨hs, hd, he⟩, inv_of_terminal rfl h.memWf rfl ?_⟩
      exact h.buckets_of_step_ne (by rw [hd]; decide)
    | false =>
      have hdis : Dispatching s := ⟨hs, hd, he⟩
      rw [coreStep_fetch (.inl hdis), blockStep_eq hf]
      exact ⟨_, exec_block_dispatching (isCommand_decodeBits _ _) hdis, inv_dispatchBlock h hdis _⟩
  · exact ⟨_, coreStep_accumulating ⟨hs, ha⟩, inv_accumStep h ⟨hs, ha⟩⟩

theorem coreStep_decoding (h : Inv s) (hs : Decoding s) : ∃ t, coreStep s = .next t ∧ Inv t := by
  obtain ⟨hsome, _⟩ := h.decoding hs
  obtain ⟨fmt, hf⟩ := ofTag_of_isSome_nblk? hsome
  have hne : s.hs.cmd ≠ 1 := by rw [hs.2]; decide
  rw [coreStep_fetch (.inr hs), blockStep_eq hf]
  obtain ⟨f, hend, he⟩ := exec_block_decoding (isCommand_decodeBits fmt (blockOfBytes (fetchBytes s))) hs
  obtain ⟨hphase, hmem, hexh, hbuckets⟩ := decodeEnd_frame hend s
  exact ⟨_, he, inv_of_terminal hphase (hmem ▸ h.memWf) (hexh ▸ h.exhausted_of_cmd_ne hne)
    (hbuckets ▸ h.buckets_of_cmd_ne hne)⟩

/-! ## STATS -/

/-- A STATS inside a pass: the invariant keeps to the cursor and the pixel count. -/
theorem Inv.reducing_of (h : Inv s) (hs : Reducing s) (hcr : t.cr = s.cr) (hcmd : t.crCmd = s.crCmd)
    (hst : t.status = s.status) (hei : t.einfo = s.einfo) (hm : t.mem = s.mem) (hc : t.hs.cmd = s.hs.cmd)
    (hex : t.exhausted = s.exhausted) (hb : t.buckets = s.buckets) (hnpix : t.st.npix = s.st.npix)
    (hstep : t.hs.step = .pass1 ∨ t.hs.step = .pass2)
    (hin : t.hs.bY.toNat * s.cr.width.toNat + t.hs.bX.toNat < s.st.npix.toNat ∧ t.hs.bX.toNat < s.cr.width.toNat) : Inv t := by
  have hrt : Reducing t := ⟨hst ▸ hs.1, hc ▸ hs.2⟩
  have hne : s.hs.cmd ≠ 1 := by rw [hs.2]; decide
  have hexh := hex.trans (h.exhausted_of_cmd_ne hne)
  have hbuckets := hb.trans (h.buckets_of_cmd_ne hne)
  obtain ⟨_, hn, _, _, hstatv⟩ := h.reducing hs
  have hclean := h.runClean hs.1
  refine ⟨hm ▸ h.memWf, fun _ => .inr (.inr hrt.2), fun _ => ?_, fun hd => absurd (hrt.2.symm.trans hd.2) (by decide),
    fun hd => absurd (hrt.2.symm.trans hd.2) (by decide), fun he => absurd (hexh.symm.trans he) Bool.false_ne_true,
    fun hb => absurd hbuckets hb, fun hd => absurd (hrt.2.symm.trans hd.2) (by decide), fun _ => ?_,
    fun hn => absurd (hrt.1.symm.trans hn) (by decide)⟩
  · rwa [hst, hei, hcr, hcmd]
  · rw [hnpix, hcr, hst]
    exact ⟨hstep, hn, hin.1, hin.2, hstatv⟩

/-- The pixel walk stays inside the image and in the pass, or goes on with `done`. -/
theorem inv_nextPixel {u : State} {done : State → State} (h : Inv s) (hs : Reducing s) (hcr : u.cr = s.cr)
    (hcmd : u.crCmd = s.crCmd) (hst : u.status = s.status) (hei : u.einfo = s.einfo) (hm : u.mem = s.mem)
    (hexh : u.exhausted = s.exhausted) (hb : u.buckets = s.buckets) (hnpix : u.st.npix = s.st.npix)
    (hcmd' : u.hs.cmd = s.hs.cmd) (hstep : u.hs.step = s.hs.step) (hX : u.hs.bX = s.hs.bX) (hY : u.hs.bY = s.hs.bY)
    (hdone : Inv (done u)) : Inv (nextPixel done u) := by
  obtain ⟨hpass, _, hcur, hwidth, _⟩ := h.reducing hs
  have hw := s.cr.width.isLt
  obtain ⟨hlt, hrow, e⟩ | ⟨hlt, hrow, e⟩ | ⟨_, e⟩ := nextPixel_cases done u <;> rw [e]
  · rw [hcr, hX] at hrow
    rw [hcr, hX, hY, hnpix] at hlt
    refine h.reducing_of hs hcr hcmd hst hei hm hcmd' hexh hb hnpix (by rwa [setCursor_hs, hstep]) ?_
    rw [setCursor_hs]
    dsimp only
    rw [hX, hY, toNat_add_one_of_lt hrow hw.le]
    omega
  · rw [hcr, hX] at hrow
    rw [hcr, hX, hY, hnpix] at hlt
    refine h.reducing_of hs hcr hcmd hst hei hm hcmd' hexh hb hnpix (by rwa [setCursor_hs, hstep]) ?_
    rw [setCursor_hs]
    dsimp only
    rw [hY]
    have hle : (s.hs.bY + 1).toNat ≤ s.hs.bY.toNat + 1 := by
      rw [BitVec.toNat_add]
      exact Nat.mod_le _ _
    have hmul : (s.hs.bY + 1).toNat * s.cr.width.toNat ≤ (s.hs.bY.toNat + 1) * s.cr.width.toNat := Nat.mul_le_mul_right _ hle
    rw [Nat.succ_mul] at hmul
    rw [show (0 : Word64).toNat = 0 from rfl]
    omega
  · exact hdone

theorem coreStep_reducing (h : Inv s) (hs : Reducing s) : ∃ t, coreStep s = .next t ∧ Inv t := by
  obtain ⟨hpass, hn, hcur, hwidth, _⟩ := h.reducing hs
  have hne : s.hs.cmd ≠ 1 := by rw [hs.2]; decide
  rw [coreStep_cmd3 hs.2]
  obtain h1 | h2 := hpass
  · refine ⟨nextPixel endPass1 (pass1Pixel (pixelAt s) s), by rw [statsStep, h1], ?_⟩
    refine inv_nextPixel h hs rfl rfl rfl rfl rfl rfl rfl rfl rfl rfl rfl rfl ?_
    refine h.reducing_of hs rfl rfl rfl rfl rfl rfl rfl rfl rfl (.inr rfl) ⟨?_, lt_of_le_of_lt (Nat.zero_le _) hwidth⟩
    change 0 * s.cr.width.toNat + 0 < s.st.npix.toNat
    omega
  · refine ⟨nextPixel finishStats (pass2Pixel (pixelAt s) s), by rw [statsStep, h2], ?_⟩
    refine inv_nextPixel h hs rfl rfl rfl rfl rfl rfl rfl rfl rfl rfl rfl rfl ?_
    exact inv_of_terminal rfl h.memWf (h.exhausted_of_cmd_ne hne) (h.buckets_of_cmd_ne hne)

/-! ## Every step -/

/-- From a state of the invariant a step gives a state of the invariant. -/
theorem step_inv (h : Inv s) : ∃ t, step s = .next t ∧ Inv t := by
  obtain ⟨hn, e⟩ | ⟨_, hp, e⟩ | ⟨_, hr, code, _, e⟩ | ⟨_, hr, _, e⟩ := step_cases s <;> rw [e]
  · exact ⟨_, rfl, inv_hostStep h (.inr hn)⟩
  · have h' := inv_tickReset h
    have hp' : (tickReset s).status.phase = .run := by rwa [tickReset_eta]
    obtain hc | hc | hc := h'.runCmd hp'
    · exact coreStep_classifying h' ⟨hp', hc⟩
    · exact coreStep_decoding h' ⟨hp', hc⟩
    · exact coreStep_reducing h' ⟨hp', hc⟩
  · rw [exec_command_ready (isCommand_decodeCommand code) hr, commandCode_decodeCommand]
    exact ⟨_, rfl, inv_command h hr code⟩
  · exact ⟨_, rfl, inv_hostStep h (.inl hr)⟩

/-- Settles O53: the step's next state is the one of `step_inv`. -/
theorem stepKeepsInv : Obligations.StepKeepsInv := by
  intro s t h ht
  obtain ⟨t', ht', hinv⟩ := step_inv h
  obtain rfl : t' = t := Host.Outcome.next.inj (ht'.symm.trans ht)
  exact hinv

/-- Settles O54: the stops are outside the invariant. -/
theorem stepNeverStops : Obligations.StepNeverStops := fun _ h => (step_inv h).imp fun _ ht => ht.1

/-- Settles O52: no command runs after reset, and no pass accounts for blocks. -/
theorem resetMeetsInv : Obligations.ResetMeetsInv :=
  ⟨inv_of_ready nofun wf_reset rfl rfl fun _ => ⟨rfl, rfl, rfl, rfl, rfl, rfl⟩, fun h => nomatch h.1⟩

end Sys2Proof.Machine
end

section
/-!
The accounts of a pass (spec/44_classifier.md rule R262): what ACCUM adds to `TOTAL`, to the buckets and to the blocks taken.
-/
namespace Sys2Proof.Machine

variable {s t : State} {i : Instr} {fmt : Format}

/-! ## Where no pass runs -/

theorem histAccounts_of_phase (h : s.status.phase ≠ .run) : HistAccounts s := fun hc => absurd hc.1 h

theorem histAccounts_of_cmd {c : Nibble} (h : s.hs.cmd = c) (hc : c ≠ 1) : HistAccounts s :=
  fun hs => absurd (h.symm.trans hs.2) hc

/-- No effect of a command takes its code out of `HS.CMD`. -/
theorem StartEffect.hs_cmd {f : State → State} (h : StartEffect i f) (s : State) : (f s).hs.cmd = s.hs.cmd := by
  cases h with
  | raise e x he => cases i <;> rfl
  | walk | fetch | reduce | finish => rfl

/-- A command's start leaves the command in `HS.CMD`, whatever becomes of it. -/
theorem exec_command_hs_cmd (h : isCommand i = true) (he : exec i s = .next t) : t.hs.cmd = commandCode i := by
  obtain ⟨_, f, ⟨hf, _⟩, rfl⟩ := exec_command_effect h he
  exact hf.hs_cmd _

/-! ## The sum of the buckets -/

/-- The sum of the buckets of a histogram. -/
def bucketSum (h : Vector Word64 15) : Word64 := ∑ k : Fin 15, h[k]

theorem histSum_eq_bucketSum (s : State) : histSum s = bucketSum s.hist := by
  rw [histSum, ← List.sum_eq_foldl, bucketSum, ← List.sum_ofFn]
  congr 1
  refine List.ext_getElem (by simp) fun n _ _ => ?_
  rw [List.getElem_ofFn, Vector.getElem_toList]
  rfl

theorem bucketSum_bumpBucket (h : Vector Word64 15) (j : Fin 15) : bucketSum (bumpBucket h j) = bucketSum h + 1 := by
  simp only [bucketSum, getElem_bumpBucket, Finset.sum_add_distrib, Finset.sum_ite_eq, Finset.mem_univ, if_true]

theorem bucketSum_foldl_bumpBucket : ∀ (L : List (Fin 15)) (h : Vector Word64 15),
    bucketSum (L.foldl bumpBucket h) = bucketSum h + BitVec.ofNat 64 L.length
  | [], h => by simp
  | j :: L, h => by
    rw [List.foldl_cons, bucketSum_foldl_bumpBucket L, bucketSum_bumpBucket, List.length_cons, BitVec.ofNat_add, BitVec.add_assoc,
      BitVec.add_comm (BitVec.ofNat 64 _)]
    rfl

/-! ## What one block adds -/

theorem bc4Bucket_cases (signed : Bool) (B : BitVec 128) (o : Nat) :
    Spec.bc4Bucket signed B o = 0 ∨ Spec.bc4Bucket signed B o = 1 := by
  unfold Spec.bc4Bucket
  split_ifs
  all_goals decide

/-- A block's list is as long as the sum of its format grows (rule R262). -/
theorem expectedSum_add_one (p : Params) (fmt : Format) (B : BitVec 128) (total : Word64) :
    expectedSum p fmt (total + 1) = expectedSum p fmt total + BitVec.ofNat 64 (Spec.buckets p fmt B).length := by
  cases fmt with
  | bc5u | bc5s =>
    change total + 1 + (total + 1) = total + total + 2
    ring
  | bc2 =>
    simp only [expectedSum, Spec.buckets]
    split_ifs <;> simp
  | _ => rfl

/-- A BC5 block counts once in the pair of each of its channels. -/
theorem count_bc5_buckets (p : Params) (hfmt : fmt = .bc5u ∨ fmt = .bc5s) (B : BitVec 128) :
    (Spec.buckets p fmt B).count 0 + (Spec.buckets p fmt B).count 1 = 1
      ∧ (Spec.buckets p fmt B).count 2 + (Spec.buckets p fmt B).count 3 = 1 := by
  have hpair : ∀ x y : Nat, x = 0 ∨ x = 1 → y = 0 ∨ y = 1 →
      List.count 0 [x, 2 + y] + List.count 1 [x, 2 + y] = 1 ∧ List.count 2 [x, 2 + y] + List.count 3 [x, 2 + y] = 1 := by
    rintro x y (rfl | rfl) (rfl | rfl) <;> decide
  obtain rfl | rfl := hfmt <;> exact hpair _ _ (bc4Bucket_cases _ B 0) (bc4Bucket_cases _ B 64)

/-- Two buckets of which a list names one, once, together grow by 1. -/
theorem pair_foldl_bumpBucket {L : List (Fin 15)} {j k : Fin 15}
    (hc : (L.map Fin.val).count j.val + (L.map Fin.val).count k.val = 1) (h : Vector Word64 15) :
    (L.foldl bumpBucket h)[j] + (L.foldl bumpBucket h)[k] = h[j] + h[k] + 1 := by
  rw [List.count_map_of_injective _ _ Fin.val_injective, List.count_map_of_injective _ _ Fin.val_injective] at hc
  calc (L.foldl bumpBucket h)[j] + (L.foldl bumpBucket h)[k]
      = h[j] + h[k] + BitVec.ofNat 64 (L.count j + L.count k) := by
        rw [getElem_foldl_bumpBucket, getElem_foldl_bumpBucket, BitVec.ofNat_add]
        ring
    _ = h[j] + h[k] + 1 := by rw [hc]; rfl

/-! ## The steps of a pass -/

theorem blocksTaken_of_not_exhausted (h : s.exhausted = false) :
    blocksTaken s = s.hs.bY.toNat * colsOf s + s.hs.bX.toNat := by
  rw [blocksTaken, h]
  rfl

theorem blocksTaken_of_exhausted (h : s.exhausted = true) : blocksTaken s = nrows s.cr * colsOf s := by
  rw [blocksTaken, h]
  rfl

/-- Each of the cursor's three advances is one block further in the walk. -/
theorem blocksTaken_accumStep (hexh : s.exhausted = false) (hy : s.hs.bY.toNat < nrows s.cr) (hx : s.hs.bX.toNat < colsOf s) :
    blocksTaken (accumStep s) = blocksTaken s + 1 := by
  rw [blocksTaken_of_not_exhausted hexh]
  obtain ⟨hx', e⟩ | ⟨hx', hy', e⟩ | ⟨hx', hy', e⟩ := accumStep_cases s <;> rw [e] <;> rw [walkCols_eq_colsOf] at hx'
  · refine (blocksTaken_of_not_exhausted (by exact hexh)).trans ?_
    change s.hs.bY.toNat * colsOf s + (s.hs.bX + 1).toNat = _
    rw [toNat_add_one_of_lt hx' (colsOf_le s), Nat.add_assoc]
  · refine (blocksTaken_of_not_exhausted (by exact hexh)).trans ?_
    change (s.hs.bY + 1).toNat * colsOf s + 0 = _
    rw [toNat_add_one_of_lt hy' (nrows_le s.cr), Nat.succ_mul]
    omega
  · refine (blocksTaken_of_exhausted rfl).trans ?_
    change nrows s.cr * colsOf s = _
    rw [show nrows s.cr = s.hs.bY.toNat + 1 by omega, Nat.succ_mul]
    omega

/-- What the step from ACCUM does to the accumulator, wherever the cursor goes. -/
theorem accumStep_frame (s : State) : (accumStep s).total = s.total + 1
    ∧ (accumStep s).hist = s.buckets.foldl bumpBucket s.hist ∧ (accumStep s).cr = s.cr ∧ (accumStep s).params = s.params
    ∧ (accumStep s).hs.step = .dispatch ∧ (accumStep s).mem = s.mem := by
  obtain ⟨_, e⟩ | ⟨_, _, e⟩ | ⟨_, _, e⟩ := accumStep_cases s <;> rw [e] <;> exact ⟨rfl, rfl, rfl, rfl, rfl, rfl⟩

theorem histAccounts_accumStep (h : Inv s) (ha : HistAccounts s) (hs : Accumulating s) : HistAccounts (accumStep s) := by
  intro _ fmt hf
  obtain ⟨htotal, hhist, hcr, hparams, hstep, _⟩ := accumStep_frame s
  rw [hcr] at hf
  obtain ⟨hsum, hbuckets, hpairs, hlist⟩ := ha hs.1 fmt hf
  have hlist := hlist hs.2
  have hexh : s.exhausted = false := Bool.eq_false_iff.2 fun he => by simpa [hs.2] using (h.pastWalk he).2.1
  obtain ⟨hy, hx⟩ := h.inWalk hs.1 hexh
  refine ⟨?_, ?_, fun hfmt => ?_, fun he => absurd (hstep.symm.trans he) (by decide)⟩
  · rw [htotal, hsum, blocksTaken_accumStep hexh hy hx, BitVec.ofNat_add]
    rfl
  · rw [histSum_eq_bucketSum, hhist, bucketSum_foldl_bumpBucket, ← histSum_eq_bucketSum, hbuckets, htotal, hparams,
      expectedSum_add_one _ _ (Spec.block s fmt.nblk s.hs.bY.toNat s.hs.bX.toNat), ← hlist, List.length_map]
  · obtain ⟨h01, h23⟩ := hpairs hfmt
    obtain ⟨c01, c23⟩ := count_bc5_buckets s.params hfmt (Spec.block s fmt.nblk s.hs.bY.toNat s.hs.bX.toNat)
    rw [← hlist] at c01 c23
    rw [hhist, htotal]
    exact ⟨(pair_foldl_bumpBucket (j := 0) (k := 1) c01 s.hist).trans (congrArg (· + 1) h01),
      (pair_foldl_bumpBucket (j := 2) (k := 3) c23 s.hist).trans (congrArg (· + 1) h23)⟩

theorem histAccounts_dispatchBlock (ha : HistAccounts s) (hs : Dispatching s) (hf : Format.ofTag s.cr.fmt = some fmt) :
    HistAccounts (dispatchBlock (bucketsOf s.params (decodeBits fmt (Spec.block s fmt.nblk s.hs.bY.toNat s.hs.bX.toNat))) s) := by
  intro _ fmt' hf'
  obtain rfl : fmt = fmt' := Option.some.inj (hf.symm.trans hf')
  obtain ⟨hsum, hbuckets, hpairs, _⟩ := ha hs.1 fmt hf
  exact ⟨hsum, hbuckets, hpairs, fun _ => map_val_bucketsOf _ _ _⟩

theorem histAccounts_classifyAct (s : State) : HistAccounts (classifyAct (startCommand 1 s)) := by
  obtain ⟨_, e⟩ | ⟨fmt, _, _, e⟩ | ⟨fmt, hf, _, e⟩ := classifyAct_cases (startCommand 1 s) <;> rw [e]
  · exact histAccounts_of_phase (show Phase.terminal ≠ .run by decide)
  · exact histAccounts_of_phase (show Phase.terminal ≠ .run by decide)
  · intro _ fmt' hf'
    obtain rfl : fmt = fmt' := Option.some.inj (hf.symm.trans hf')
    have hcols : ∀ t : State, t.cr = s.cr → t.params = s.params → colsOf t = ncols s.params s.cr fmt.nblk := fun t hc hp => by
      rw [colsOf_of_ofTag (fmt := fmt) (by rw [hc]; exact hf), hc, hp]
    generalize ht : startWalk _ _ = t
    have hcr : t.cr = s.cr := by rw [← ht]; rfl
    have htaken : blocksTaken t = 0 := by
      cases he : t.exhausted with
      | true =>
        rw [blocksTaken_of_exhausted he, hcols t hcr (by rw [← ht]; rfl), hcr]
        have hempty : nrows s.cr = 0 ∨ ncols s.params s.cr fmt.nblk = 0 := of_decide_eq_true (by rw [← ht] at he; exact he)
        obtain h0 | h0 := hempty <;> rw [h0]
        · exact Nat.zero_mul _
        · exact Nat.mul_zero _
      | false =>
        rw [blocksTaken_of_not_exhausted he, ← ht]
        change 0 * _ + 0 = 0
        rw [Nat.zero_mul]
    rw [htaken, ← ht]
    refine ⟨rfl, ?_, fun _ => ⟨rfl, rfl⟩, fun he => nomatch he⟩
    change 0 = expectedSum s.params fmt 0
    cases fmt <;> simp [expectedSum]

/-- A step of STATS stays in STATS. -/
theorem statsStep_hs_cmd (h : statsStep s = .next t) : t.hs.cmd = s.hs.cmd := by
  have hnext : ∀ (done : State → State) (u : State), u.hs.cmd = s.hs.cmd → (done u).hs.cmd = s.hs.cmd →
      (nextPixel done u).hs.cmd = s.hs.cmd := by
    intro done u hu hdone
    obtain ⟨_, _, e⟩ | ⟨_, _, e⟩ | ⟨_, e⟩ := nextPixel_cases done u <;> rw [e]
    · exact hu
    · exact hu
    · exact hdone
  unfold statsStep at h
  split at h
  · obtain rfl := Host.Outcome.next.inj h
    exact hnext _ _ rfl rfl
  · obtain rfl := Host.Outcome.next.inj h
    exact hnext _ _ rfl rfl
  · nomatch h
  · nomatch h

/-- An access of the host starts no command by itself. -/
theorem hostStep_ready (hr : Ready s) : Ready (hostStep s) := by
  unfold hostStep
  split
  · exact hr
  · rename_i op rest _
    cases op with
    | reset k => exact (by decide : State.reset.status.phase ≠ .run)
    | write n v =>
      rw [serve, hostWrite]
      split_ifs <;> exact hr
    | read n | store addr bytes => exact hr

/-! ## Every step -/

theorem coreStep_histAccounts (h : Inv s) (ha : HistAccounts s) (hp : s.status.phase = .run) (he : coreStep s = .next t) :
    HistAccounts t := by
  obtain hc | hc | hc := h.runCmd hp
  · obtain ⟨hsome, _, hd | hacc⟩ := h.classifying ⟨hp, hc⟩
    · cases hexh : s.exhausted with
      | true =>
        rw [coreStep_passExhausted ⟨⟨hp, hc⟩, hd, hexh⟩] at he
        obtain rfl := Host.Outcome.next.inj he
        exact histAccounts_of_phase (show Phase.terminal ≠ .run by decide)
      | false =>
        obtain ⟨fmt, hf⟩ := ofTag_of_isSome_nblk? hsome
        have hdis : Dispatching s := ⟨⟨hp, hc⟩, hd, hexh⟩
        rw [coreStep_fetch (.inl hdis), blockStep_classifying hf hc, exec_block_dispatching (isCommand_decodeBits _ _) hdis] at he
        obtain rfl := Host.Outcome.next.inj he
        exact histAccounts_dispatchBlock ha hdis hf
    · rw [coreStep_accumulating ⟨⟨hp, hc⟩, hacc⟩] at he
      obtain rfl := Host.Outcome.next.inj he
      exact histAccounts_accumStep h ha ⟨⟨hp, hc⟩, hacc⟩
  · obtain ⟨fmt, hf⟩ := ofTag_of_isSome_nblk? (h.decoding ⟨hp, hc⟩).1
    rw [coreStep_cmd2 hc, blockStep_eq hf] at he
    obtain ⟨f, hend, he'⟩ := exec_block_decoding (isCommand_decodeBits fmt (blockOfBytes (fetchBytes s))) ⟨hp, hc⟩
    obtain rfl := Host.Outcome.next.inj (he'.symm.trans he)
    exact histAccounts_of_phase (by rw [(decodeEnd_frame hend s).1]; decide)
  · rw [coreStep_cmd3 hc] at he
    exact histAccounts_of_cmd (statsStep_hs_cmd he ▸ hc) (by decide)

/-- Settles O55: outside a pass there is nothing to account for; inside, DISPATCH lists a block and ACCUM counts it. -/
theorem stepKeepsHistAccounts : Obligations.StepKeepsHistAccounts := by
  intro s t h ha ht
  obtain ⟨⟨rest, hn⟩, _⟩ | ⟨_, hp, e⟩ | ⟨_, hr, code, _, e⟩ | ⟨_, hr, _, e⟩ := step_cases s
  · rw [step_of_inbox_reset hn] at ht
    obtain rfl := Host.Outcome.next.inj ht
    exact histAccounts_of_phase (show Phase.none ≠ .run by decide)
  · rw [e, tickReset_eta] at ht
    exact coreStep_histAccounts (h.with_inbox (tickReset s).inbox) ha hp ht
  · rw [e] at ht
    by_cases hcode : code = 1
    · subst hcode
      obtain ⟨_, rfl⟩ := (exec_command_eq_next (i := .classify) rfl).1 ht
      exact histAccounts_classifyAct s
    · exact histAccounts_of_cmd (exec_command_hs_cmd (isCommand_decodeCommand code) ht)
        (by rwa [commandCode_decodeCommand])
  · obtain rfl := Host.Outcome.next.inj (e.symm.trans ht)
    exact histAccounts_of_phase (hostStep_ready hr)

end Sys2Proof.Machine
end

section
/-!
What an instruction and a step leave alone (spec/46_commands.md section 1, spec/60_exceptions.md section 4): read off the
effects of the commands, the two ends of a block, and the step of STATS.
-/
namespace Sys2Proof.Machine

variable {s s' t t' : State} {i : Instr} {f : State → State}

/-! ## The inputs -/

/-- What no instruction writes: the buffer memory, the descriptor, the parameters and the host's side. -/
structure SameInputs (s t : State) : Prop where
  mem : t.mem = s.mem
  cr : t.cr = s.cr
  params : t.params = s.params
  inbox : t.inbox = s.inbox
  readData : t.readData = s.readData

theorem StartEffect.sameInputs (h : StartEffect i f) (s : State) : SameInputs s (f s) := by
  cases h with
  | raise e x he => cases i <;> exact ⟨rfl, rfl, rfl, rfl, rfl⟩
  | walk | fetch | reduce | finish => exact ⟨rfl, rfl, rfl, rfl, rfl⟩

theorem IsDecodeEnd.sameInputs (h : IsDecodeEnd f) (s : State) : SameInputs s (f s) := by
  obtain ⟨d, rfl⟩ | ⟨x, rfl⟩ := h <;> exact ⟨rfl, rfl, rfl, rfl, rfl⟩

theorem exec_sameInputs (h : exec i s = .next t) : SameInputs s t := by
  cases hc : isCommand i with
  | true =>
    obtain ⟨_, f, ⟨hf, _⟩, rfl⟩ := exec_command_effect hc h
    obtain ⟨hmem, hcr, hparams, hinbox, hread⟩ := hf.sameInputs (startCommand (commandCode i) s)
    exact ⟨hmem, hcr, hparams, hinbox, hread⟩
  | false =>
    obtain ⟨_, rfl⟩ | ⟨_, f, hf, rfl⟩ := exec_block_eq_next hc h
    · exact ⟨rfl, rfl, rfl, rfl, rfl⟩
    · exact hf.sameInputs s

/-- Settles O48: no effect of a command and no end of a block writes them. -/
theorem commandsAndBlocksOnlyRead : Obligations.CommandsAndBlocksOnlyRead := fun _ _ _ h =>
  have hsame := exec_sameInputs h
  ⟨hsame.mem, hsame.cr, hsame.params, hsame.inbox, hsame.readData⟩

/-! ## Errors -/

/-- Every flag that is set in `t` was set in `s`. -/
def NoFlagRises (s t : State) : Prop :=
  (t.status.histv = true → s.status.histv = true) ∧ (t.status.statv = true → s.status.statv = true)
    ∧ (t.status.decv = true → s.status.decv = true) ∧ (t.status.xv = true → s.status.xv = true)

theorem noFlagRises_prepare (i : Instr) (s : State) : NoFlagRises s (prepare i s) := by
  cases i with
  | classify => exact ⟨nofun, id, id, id⟩
  | stats => exact ⟨id, nofun, id, id⟩
  | decode => exact ⟨id, id, nofun, id⟩
  | extract | sext | fixup | isfix => exact ⟨id, id, id, nofun⟩
  | _ => exact ⟨id, id, id, id⟩

/-- What the checks come after clears the flag of the command's own group and writes neither `DR` nor `XRES`. -/
theorem prepare_frame (i : Instr) (s : State) : (prepare i s).dr = s.dr ∧ (prepare i s).xres = s.xres
    ∧ (i = .classify → (prepare i s).status.histv = false) ∧ (i = .stats → (prepare i s).status.statv = false)
    ∧ (i = .decode → (prepare i s).status.decv = false)
    ∧ (i ∈ [Instr.extract, .sext, .fixup, .isfix] → (prepare i s).status.xv = false) := by
  refine ⟨by cases i <;> rfl, by cases i <;> rfl, ?_, ?_, ?_, fun hi => ?_⟩
  · rintro rfl
    rfl
  · rintro rfl
    rfl
  · rintro rfl
    rfl
  · simp only [List.mem_cons, List.not_mem_nil, or_false] at hi
    obtain rfl | rfl | rfl | rfl := hi <;> rfl

/-- An effect that leaves an error is an ERROR ENTRY. -/
theorem StartEffect.eq_raise (h : StartEffect i f) (hs : s.status.err = .none) (he : (f s).status.err ≠ .none) :
    ∃ e x, f s = raiseError e x (prepare i s) := by
  cases h with
  | raise e x => exact ⟨e, x, rfl⟩
  | walk | fetch | reduce | finish => exact absurd hs he

/-- Settles O50: an error is ERROR ENTRY after the preparation of a command, or that of a reserved block. -/
theorem errorsArePrecise : Obligations.ErrorsArePrecise := by
  intro i s t hs hexec herr
  cases hc : isCommand i with
  | true =>
    obtain ⟨_, f, ⟨hf, _⟩, rfl⟩ := exec_command_effect hc hexec
    obtain ⟨e, x, hraise⟩ := hf.eq_raise rfl herr
    rw [hraise]
    obtain ⟨hdr, hx, hflags⟩ := prepare_frame i (startCommand (commandCode i) s)
    obtain ⟨hhist, hstat, hdec, hxv⟩ := hflags
    exact ⟨rfl, hdr, hx, hhist, hstat, hdec, hxv, noFlagRises_prepare i (startCommand (commandCode i) s)⟩
  | false =>
    have hne : ∀ j, isCommand j = true → i ≠ j := by
      rintro j hj rfl
      simp [hc] at hj
    have herr_s : s.status.err = .none := hs.resolve_right (by simp [hc])
    obtain ⟨_, rfl⟩ | ⟨_, f, ⟨d, rfl⟩ | ⟨x, rfl⟩, rfl⟩ := exec_block_eq_next hc hexec
    · exact absurd herr_s herr
    · exact absurd herr_s herr
    · refine ⟨rfl, rfl, rfl, fun h => absurd h (hne _ rfl), fun h => absurd h (hne _ rfl), fun h => absurd h (hne _ rfl),
        fun h => ?_, id, id, id, id⟩
      simp only [List.mem_cons, List.not_mem_nil, or_false] at h
      obtain rfl | rfl | rfl | rfl := h <;> nomatch hc

/-! ## Result groups -/

/-- A step of STATS writes the `ST` registers, the hidden state and, at its end, `PHASE` and `STATV`. -/
theorem statsStep_frame (h : statsStep s = .next t) : ∃ st hs ph v,
    t = { s with st := st, hs := hs, status := { s.status with phase := ph, statv := v } } := by
  have hnext : ∀ (done : State → State) (st : StatRegs) (hs : Hidden),
      (∀ u : State, ∃ st hs ph v, done u = { u with st := st, hs := hs, status := { u.status with phase := ph, statv := v } }) →
      ∃ st' hs' ph v, nextPixel done { s with st := st, hs := hs } =
        { s with st := st', hs := hs', status := { s.status with phase := ph, statv := v } } := by
    intro done st hs hdone
    obtain ⟨_, _, e⟩ | ⟨_, _, e⟩ | ⟨_, e⟩ := nextPixel_cases done { s with st := st, hs := hs } <;> rw [e]
    · exact ⟨_, _, _, _, rfl⟩
    · exact ⟨_, _, _, _, rfl⟩
    · exact hdone _
  unfold statsStep at h
  split at h
  · obtain rfl := Host.Outcome.next.inj h
    exact hnext endPass1 _ _ fun u => ⟨_, _, _, _, rfl⟩
  · obtain rfl := Host.Outcome.next.inj h
    exact hnext finishStats _ _ fun u => ⟨_, _, _, _, rfl⟩
  · nomatch h
  · nomatch h

/-- While a command runs, what a fetch executes is a block: a command is refused. -/
theorem blockStep_eq_next (hp : s.status.phase = .run) (h : blockStep s = .next t) :
    ∃ i, isCommand i = false ∧ decodeInstr (.block s.cr.fmt) (fetchBytes s) = .ok i ∧ exec i s = .next t := by
  unfold blockStep at h
  split at h
  · rename_i i hi
    refine ⟨i, Bool.eq_false_iff.2 fun hc => ?_, hi, h⟩
    exact absurd hp ((exec_command_eq_next hc).1 h).1
  · nomatch h

/-- A step of CLASSIFY writes the accumulator, the hidden state and, at its end, `PHASE` and `HISTV`. -/
theorem classifyStep_frame (hp : s.status.phase = .run) (hc : s.hs.cmd = 1) (h : classifyStep s = .next t) :
    ∃ total hist hs ph v b x, t = { s with
      total := total, hist := hist, hs := hs, buckets := b, exhausted := x
      status := { s.status with phase := ph, histv := v } } ∧ hs.cmd = s.hs.cmd := by
  obtain ⟨_, _, e⟩ | ⟨_, _, e⟩ | ⟨_, e⟩ | ⟨_, e⟩ := classifyStep_cases s <;> rw [e] at h
  · obtain rfl := Host.Outcome.next.inj h
    exact ⟨_, _, _, _, _, _, _, rfl, rfl⟩
  · obtain ⟨i, hi, _, he⟩ := blockStep_eq_next hp h
    obtain ⟨_, rfl⟩ | ⟨hd, _⟩ := exec_block_eq_next hi he
    · exact ⟨_, _, _, _, _, _, _, rfl, rfl⟩
    · exact absurd (hc.symm.trans hd.2) (by decide)
  · obtain rfl := Host.Outcome.next.inj h
    obtain ⟨_, e⟩ | ⟨_, _, e⟩ | ⟨_, _, e⟩ := accumStep_cases s <;> rw [e] <;> exact ⟨_, _, _, _, _, _, _, rfl, rfl⟩
  · nomatch h

/-- A step of DECODE writes `DR`, the error and, at its end, `PHASE` and `DECV`. -/
theorem blockStep_frame (hp : s.status.phase = .run) (hc : s.hs.cmd = 2) (h : blockStep s = .next t) :
    ∃ dr x ph e v, t = { s with dr := dr, einfo := x, status := { s.status with phase := ph, err := e, decv := v } } := by
  obtain ⟨i, hi, _, he⟩ := blockStep_eq_next hp h
  obtain ⟨hd, _⟩ | ⟨_, f, ⟨d, rfl⟩ | ⟨x, rfl⟩, rfl⟩ := exec_block_eq_next hi he
  · exact absurd (hc.symm.trans hd.1.2) (by decide)
  · exact ⟨_, _, _, _, _, rfl⟩
  · exact ⟨_, _, _, _, _, rfl⟩

/-- Settles O49: the start steps by the effects of the commands, the further steps by what each of the three writes. -/
theorem ownResultGroupOnly : Obligations.OwnResultGroupOnly := by
  refine fun s t => ⟨fun h => ?_, fun h => ?_, fun h => ?_, fun i hi h => ?_, fun code hcode h => ?_, fun hp hn h => ?_⟩
  · obtain ⟨_, f, ⟨hf, _⟩, rfl⟩ := exec_command_effect (i := .classify) rfl h
    cases hf with
    | raise | walk => exact ⟨rfl, rfl, rfl, rfl, rfl, rfl⟩
    | finish hi => simp at hi
  · obtain ⟨_, f, ⟨hf, _⟩, rfl⟩ := exec_command_effect (i := .stats) rfl h
    cases hf with
    | raise | reduce => exact ⟨rfl, rfl, rfl, rfl, rfl, rfl, rfl⟩
    | finish hi => simp at hi
  · obtain ⟨_, f, ⟨hf, _⟩, rfl⟩ := exec_command_effect (i := .decode) rfl h
    cases hf with
    | raise | fetch => exact ⟨rfl, rfl, rfl, rfl, rfl, rfl, rfl, rfl⟩
    | finish hi => simp at hi
  · simp only [List.mem_cons, List.not_mem_nil, or_false] at hi
    obtain rfl | rfl | rfl | rfl := hi
    all_goals
      obtain ⟨_, f, ⟨hf, _⟩, rfl⟩ := exec_command_effect rfl h
      cases hf <;> exact ⟨rfl, rfl, rfl, rfl, rfl, rfl, rfl⟩
  · rw [exec_decodeCommand_illegal hcode] at h
    obtain ⟨_, rfl⟩ := runCommand_eq_next.1 h
    exact ⟨rfl, rfl, rfl, rfl, rfl, rfl, rfl, rfl, rfl⟩
  · rw [step_running hn hp, tickReset_eta] at h
    generalize (tickReset s).inbox = ib at h
    obtain ⟨hc, e⟩ | ⟨hc, e⟩ | ⟨hc, e⟩ | ⟨_, _, _, e⟩ := coreStep_cases { s with inbox := ib } <;> rw [e] at h
    · obtain ⟨total, hist, hs, ph, v, b, x, rfl, _⟩ := classifyStep_frame (s := { s with inbox := ib }) hp hc h
      exact ⟨rfl, rfl, rfl, rfl, rfl, fun _ => ⟨rfl, rfl, rfl, rfl⟩, fun h2 => absurd (hc.symm.trans h2) (by decide),
        fun h3 => absurd (hc.symm.trans h3) (by decide)⟩
    · obtain ⟨dr, x, ph, e, v, rfl⟩ := blockStep_frame (s := { s with inbox := ib }) hp hc h
      exact ⟨rfl, rfl, rfl, rfl, rfl, fun h1 => absurd (hc.symm.trans h1) (by decide), fun _ => ⟨rfl, rfl, rfl, rfl, rfl⟩,
        fun h3 => absurd (hc.symm.trans h3) (by decide)⟩
    · obtain ⟨st, hs, ph, v, rfl⟩ := statsStep_frame (s := { s with inbox := ib }) h
      exact ⟨rfl, rfl, rfl, rfl, rfl, fun h1 => absurd (hc.symm.trans h1) (by decide),
        fun h2 => absurd (hc.symm.trans h2) (by decide), fun _ => ⟨rfl, rfl, rfl, rfl, rfl⟩⟩
    · nomatch h

end Sys2Proof.Machine
end

section
/-!
A command sees its inputs only (spec/46_commands.md section 1, spec/70_reset_and_hazards.md section 4): two machines that
differ in nothing else than what a command does not read take the same steps.
-/
namespace Sys2Proof.Machine

variable {s s' t t' : State} {i : Instr} {f : State → State} {code : Nibble}

/-! ## The start step -/

/-- What the statement compares of two machines, whatever the command. -/
def ControlAgrees (t t' : State) : Prop :=
  t.status.phase = t'.status.phase ∧ t.status.err = t'.status.err ∧ t.einfo = t'.einfo ∧ t.hs.cmd = t'.hs.cmd

/-- What it compares of the result group of the command. -/
def ResultAgrees (i : Instr) (t t' : State) : Prop :=
  (i = .classify → t.total = t'.total ∧ t.hist = t'.hist ∧ t.status.histv = t'.status.histv)
  ∧ (i = .stats → t.st = t'.st ∧ t.status.statv = t'.status.statv) ∧ (i = .decode → t.status.decv = t'.status.decv)
  ∧ (i ∈ [Instr.extract, .sext, .fixup, .isfix] →
    t.status.xv = t'.status.xv ∧ (t.status.err = .none → t.xres = t'.xres))

/-- An effect of a command makes the control state and the result group of two machines with the same descriptor agree. -/
theorem StartEffect.agrees (h : StartEffect i f) (c : Nibble) (hcr : s.cr = s'.cr) :
    ControlAgrees (f (startCommand c s)) (f (startCommand c s')) ∧ ResultAgrees i (f (startCommand c s)) (f (startCommand c s')) := by
  cases h with
  | raise e x he =>
    refine ⟨⟨rfl, rfl, rfl, by cases i <;> rfl⟩, ?_, ?_, ?_, fun hi => ⟨?_, fun h => absurd h he⟩⟩
    · rintro rfl
      exact ⟨rfl, rfl, rfl⟩
    · rintro rfl
      exact ⟨congrArg (fun cr : CtrlRegs => StatRegs.start (cr.width * cr.height)) hcr, rfl⟩
    · rintro rfl
      rfl
    · simp only [List.mem_cons, List.not_mem_nil, or_false] at hi
      obtain rfl | rfl | rfl | rfl := hi <;> rfl
  | walk => exact ⟨⟨rfl, rfl, rfl, rfl⟩, fun _ => ⟨rfl, rfl, rfl⟩, nofun, nofun, fun h => absurd h (by decide)⟩
  | fetch => exact ⟨⟨rfl, rfl, rfl, rfl⟩, nofun, nofun, fun _ => rfl, fun h => absurd h (by decide)⟩
  | reduce =>
    exact ⟨⟨rfl, rfl, rfl, rfl⟩, nofun,
      fun _ => ⟨congrArg (fun cr : CtrlRegs => StatRegs.start (cr.width * cr.height)) hcr, rfl⟩, nofun,
      fun h => absurd h (by decide)⟩
  | finish hi v =>
    refine ⟨⟨rfl, rfl, rfl, rfl⟩, fun h => ?_, fun h => ?_, fun h => ?_, fun _ => ⟨rfl, fun _ => rfl⟩⟩
    all_goals
      rw [h] at hi
      exact absurd hi (by decide)

/-- Two machines with the same inputs start a command with the same effect. -/
theorem exec_command_effect₂ (h : isCommand i = true) (hcr : s.cr = s'.cr) (hp : s.params = s'.params) (hm : s.mem = s'.mem)
    (he : exec i s = .next t) (he' : exec i s' = .next t') :
    ∃ f, StartEffect i f ∧ t = f (startCommand (commandCode i) s) ∧ t' = f (startCommand (commandCode i) s') := by
  obtain ⟨_, rfl⟩ := (exec_command_eq_next h).1 he
  obtain ⟨_, rfl⟩ := (exec_command_eq_next h).1 he'
  obtain ⟨f, hf, hact⟩ := exists_hasEffect h s.cr s.params s.mem
  exact ⟨f, hf, hact _ rfl rfl rfl, hact _ hcr.symm hp.symm hm.symm⟩

/-! ## Runs -/

theorem run_succ_eq_next (M : Host.Core) {s t : M.State} {k : Nat} (h : M.run (k + 1) s = .next t) :
    ∃ u, M.step s = .next u ∧ M.run k u = .next t := by
  rw [Host.Core.run] at h
  cases hs : M.step s with
  | next u =>
    rw [hs] at h
    exact ⟨u, rfl, h⟩
  | fault => simp [hs] at h
  | refused => simp [hs] at h

/-- A machine between commands, of which the host asks nothing, stays as it is. -/
theorem run_idle (hr : Ready s) (hc : s.crCmd = none) (hi : s.inbox = []) : ∀ k, Sys2Proof.core.run k s = .next s
  | 0 => rfl
  | k + 1 => (run_succ k (idleKeepsState s hr hc hi)).trans (run_idle hr hc hi k)

/-- A command that has ended stays as it ended. -/
theorem eq_of_run_terminal {k : Nat} (h : Sys2Proof.core.run k s = .next t) (hp : s.status.phase = .terminal)
    (hc : s.crCmd = none) (hi : s.inbox = []) : t = s :=
  Host.Outcome.next.inj (h.symm.trans (run_idle (by rw [Ready, hp]; decide) hc hi k))

/-- A map of states that every step respects is respected by every run. -/
theorem run_map {g : State → State} {P : State → Prop}
    (hstep : ∀ s t, P s → step s = .next t → P t ∧ step (g s) = .next (g t)) :
    ∀ (k : Nat) {s t : State}, P s → Sys2Proof.core.run k s = .next t → Sys2Proof.core.run k (g s) = .next (g t)
  | 0, _, _, _, h => congrArg (fun u => Host.Outcome.next (g u)) (Host.Outcome.next.inj h)
  | k + 1, _, _, hP, h => by
    obtain ⟨u, hu, hrun⟩ := run_succ_eq_next Sys2Proof.core h
    obtain ⟨hPu, hgu⟩ := hstep _ _ hP hu
    exact (run_succ k hgu).trans (run_map hstep k hPu hrun)

/-- Nothing is pending and the host asks nothing. -/
structure Quiet (s : State) : Prop where
  crCmd : s.crCmd = none
  inbox : s.inbox = []

theorem Quiet.step_running (h : Quiet s) (hp : s.status.phase = .run) : step s = coreStep s := by
  have hn : noResetNext s := fun k rest hr => by simp [h.inbox] at hr
  rw [Machine.step_running (not_resetNow_of_noResetNext hn) hp, tickReset_of_noResetNext hn]

/-- A map that keeps `PHASE` and what is pending, and that the core's step respects, is respected by every step of a
quiet machine. -/
theorem Quiet.step_map {g : State → State} (h : Quiet s) (hg : Quiet (g s)) (hph : (g s).status.phase = s.status.phase)
    (hcore : s.status.phase = .run → coreStep s = .next t → Quiet t ∧ coreStep (g s) = .next (g t)) (hstep : step s = .next t) :
    Quiet t ∧ step (g s) = .next (g t) := by
  by_cases hp : s.status.phase = .run
  · rw [h.step_running hp] at hstep
    obtain ⟨hq, hgt⟩ := hcore hp hstep
    exact ⟨hq, (hg.step_running (hph.trans hp)).trans hgt⟩
  · obtain rfl := Host.Outcome.next.inj ((idleKeepsState s hp h.crCmd h.inbox).symm.trans hstep)
    exact ⟨h, idleKeepsState (g s) (by rwa [Ready, hph]) hg.crCmd hg.inbox⟩

/-! ## What CLASSIFY does not read -/

/-- `s` with what CLASSIFY does not read taken from `d`. -/
def besideClassify (d s : State) : State :=
  { s with
    xres := d.xres, st := d.st, dr := d.dr, readData := d.readData, hs := { s.hs with sum := d.hs.sum }
    status := { s.status with statv := d.status.statv, decv := d.status.decv, xv := d.status.xv } }

theorem advance_besideClassify (nr nc : Nat) (d s : State) :
    advance nr nc (besideClassify d s) = besideClassify d (advance nr nc s) := by
  have hX : (besideClassify d s).hs.bX = s.hs.bX := rfl
  have hY : (besideClassify d s).hs.bY = s.hs.bY := rfl
  unfold advance
  rw [hX, hY]
  split_ifs <;> rfl

theorem accumStep_besideClassify (d s : State) : accumStep (besideClassify d s) = besideClassify d (accumStep s) :=
  congrArg (setHStep .dispatch) (advance_besideClassify (nrows s.cr) (walkCols s) d (accumulate s))

theorem blockStep_of_decodeInstr (h : decodeInstr (.block s.cr.fmt) (fetchBytes s) = .ok i) : blockStep s = exec i s := by
  rw [blockStep, h]

theorem coreStep_besideClassify (d : State) (hp : s.status.phase = .run) (hc : s.hs.cmd = 1) (h : coreStep s = .next t) :
    coreStep (besideClassify d s) = .next (besideClassify d t) := by
  rw [coreStep_cmd1 hc] at h
  obtain ⟨hs, he, e⟩ | ⟨hs, he, e⟩ | ⟨hs, e⟩ | ⟨_, e⟩ := classifyStep_cases s <;> rw [e] at h
  · obtain rfl := Host.Outcome.next.inj h
    exact coreStep_passExhausted (s := besideClassify d s) ⟨⟨hp, hc⟩, hs, he⟩
  · obtain ⟨i, hi, hdec, hexec⟩ := blockStep_eq_next hp h
    have hdis : Dispatching (besideClassify d s) := ⟨⟨hp, hc⟩, hs, he⟩
    rw [coreStep_fetch (.inl hdis), blockStep_of_decodeInstr (s := besideClassify d s) hdec, exec_block_dispatching hi hdis]
    rw [exec_block_dispatching hi ⟨⟨hp, hc⟩, hs, he⟩] at hexec
    obtain rfl := Host.Outcome.next.inj hexec
    rfl
  · obtain rfl := Host.Outcome.next.inj h
    rw [coreStep_accumulating (s := besideClassify d s) ⟨⟨hp, hc⟩, hs⟩, accumStep_besideClassify]
  · nomatch h

theorem step_besideClassify (d : State) (hq : Quiet s) (hc : s.hs.cmd = 1) (h : step s = .next t) :
    (Quiet t ∧ t.hs.cmd = 1) ∧ step (besideClassify d s) = .next (besideClassify d t) := by
  have hcmd : t.hs.cmd = 1 := by
    by_cases hp : s.status.phase = .run
    · rw [hq.step_running hp, coreStep_cmd1 hc] at h
      obtain ⟨_, _, hs, _, _, _, _, rfl, hcmd⟩ := classifyStep_frame hp hc h
      exact hcmd.trans hc
    · obtain rfl := Host.Outcome.next.inj ((idleKeepsState s hp hq.crCmd hq.inbox).symm.trans h)
      exact hc
  obtain ⟨hqt, hstep⟩ := hq.step_map (g := besideClassify d) ⟨hq.crCmd, hq.inbox⟩ rfl (fun hp hcore => by
    refine ⟨?_, coreStep_besideClassify d hp hc hcore⟩
    rw [coreStep_cmd1 hc] at hcore
    obtain ⟨_, _, _, _, _, _, _, rfl, _⟩ := classifyStep_frame hp hc hcore
    exact ⟨hq.crCmd, hq.inbox⟩) h
  exact ⟨⟨hqt, hcmd⟩, hstep⟩

theorem run_besideClassify (d : State) {k : Nat} (h : Sys2Proof.core.run k s = .next t) (hq : Quiet s) (hc : s.hs.cmd = 1) :
    Sys2Proof.core.run k (besideClassify d s) = .next (besideClassify d t) :=
  run_map (P := fun s => Quiet s ∧ s.hs.cmd = 1) (fun _ _ hP => step_besideClassify d hP.1 hP.2) k ⟨hq, hc⟩ h

/-! ## What STATS does not read -/

/-- `s` with what STATS does not read taken from `d`. -/
def besideStats (d s : State) : State :=
  { s with
    xres := d.xres, total := d.total, hist := d.hist, dr := d.dr, readData := d.readData, buckets := d.buckets
    exhausted := d.exhausted
    status := { s.status with histv := d.status.histv, decv := d.status.decv, xv := d.status.xv } }

theorem nextPixel_besideStats {done : State → State} (d s : State) (hdone : done (besideStats d s) = besideStats d (done s)) :
    nextPixel done (besideStats d s) = besideStats d (nextPixel done s) := by
  have hhs : (besideStats d s).hs = s.hs := rfl
  have hcr : (besideStats d s).cr = s.cr := rfl
  have hst : (besideStats d s).st = s.st := rfl
  unfold nextPixel
  rw [hhs, hcr, hst, hdone]
  split_ifs <;> rfl

theorem statsStep_besideStats (d : State) (h : statsStep s = .next t) :
    statsStep (besideStats d s) = .next (besideStats d t) := by
  cases hs : s.hs.step with
  | pass1 =>
    have hs' : (besideStats d s).hs.step = .pass1 := hs
    simp only [statsStep, hs, hs'] at h ⊢
    obtain rfl := Host.Outcome.next.inj h
    exact congrArg Host.Outcome.next (nextPixel_besideStats (done := endPass1) d (pass1Pixel (pixelAt s) s) rfl)
  | pass2 =>
    have hs' : (besideStats d s).hs.step = .pass2 := hs
    simp only [statsStep, hs, hs'] at h ⊢
    obtain rfl := Host.Outcome.next.inj h
    exact congrArg Host.Outcome.next (nextPixel_besideStats (done := finishStats) d (pass2Pixel (pixelAt s) s) rfl)
  | dispatch | accum => simp [statsStep, hs] at h

theorem step_besideStats (d : State) (hq : Quiet s) (hc : s.hs.cmd = 3) (h : step s = .next t) :
    (Quiet t ∧ t.hs.cmd = 3) ∧ step (besideStats d s) = .next (besideStats d t) := by
  have hcmd : t.hs.cmd = 3 := by
    by_cases hp : s.status.phase = .run
    · rw [hq.step_running hp, coreStep_cmd3 hc] at h
      exact (statsStep_hs_cmd h).trans hc
    · obtain rfl := Host.Outcome.next.inj ((idleKeepsState s hp hq.crCmd hq.inbox).symm.trans h)
      exact hc
  obtain ⟨hqt, hstep⟩ := hq.step_map (g := besideStats d) ⟨hq.crCmd, hq.inbox⟩ rfl (fun hp hcore => by
    rw [coreStep_cmd3 hc] at hcore
    refine ⟨?_, (coreStep_cmd3 (s := besideStats d s) hc).trans (statsStep_besideStats d hcore)⟩
    obtain ⟨_, _, _, _, rfl⟩ := statsStep_frame hcore
    exact ⟨hq.crCmd, hq.inbox⟩) h
  exact ⟨⟨hqt, hcmd⟩, hstep⟩

theorem run_besideStats (d : State) {k : Nat} (h : Sys2Proof.core.run k s = .next t) (hq : Quiet s) (hc : s.hs.cmd = 3) :
    Sys2Proof.core.run k (besideStats d s) = .next (besideStats d t) :=
  run_map (P := fun s => Quiet s ∧ s.hs.cmd = 3) (fun _ _ hP => step_besideStats d hP.1 hP.2) k ⟨hq, hc⟩ h

/-! ## What DECODE does not read -/

/-- What a block does under DECODE depends on the block and the format tag alone. -/
theorem exec_block₂ (h : isCommand i = false) (hcr : s.cr = s'.cr) :
    ∃ f, IsDecodeEnd f ∧ exec i s = fetchedBlock (bucketsOf s.params i) f s
      ∧ exec i s' = fetchedBlock (bucketsOf s'.params i) f s' := by
  obtain ⟨cr⟩ := s'
  obtain rfl : s.cr = cr := hcr
  cases i with
  | classify | decode | stats | extract | sext | fixup | isfix | cmdIllegal0 | cmdIllegal8to15 code => nomatch h
  | bc6hRsvd13 rest | bc6hRsvd17 rest | bc6hRsvd1B rest | bc6hRsvd1F rest | bc7Rsvd rest =>
    exact ⟨_, .inr ⟨_, rfl⟩, rfl, rfl⟩
  | _ => exact ⟨_, .inl ⟨_, rfl⟩, rfl, rfl⟩

theorem fetchBytes_decoding_eq (hc : s.hs.cmd = 2) (hc' : s'.hs.cmd = 2) (hcr : s.cr = s'.cr) (hm : s.mem = s'.mem) :
    fetchBytes s = fetchBytes s' := by
  have hne : (2 : Nibble) ≠ 1 := by decide
  simp only [fetchBytes, fetchAddr, hc, hc', if_neg hne, hcr, hm]

/-- Two DECODEs of the same block end alike. -/
theorem blockStep_decoding₂ (hd : Decoding s) (hd' : Decoding s') (hcr : s.cr = s'.cr) (hm : s.mem = s'.mem)
    (h : blockStep s = .next t) (h' : blockStep s' = .next t') : ∃ f, IsDecodeEnd f ∧ t = f s ∧ t' = f s' := by
  obtain ⟨i, hi, hdec, hexec⟩ := blockStep_eq_next hd.1 h
  rw [hcr, fetchBytes_decoding_eq hd.2 hd'.2 hcr hm] at hdec
  rw [blockStep_of_decodeInstr hdec] at h'
  obtain ⟨f, hf, e, e'⟩ := exec_block₂ hi hcr
  rw [e, fetchedBlock_decoding hd] at hexec
  rw [e', fetchedBlock_decoding hd'] at h'
  exact ⟨f, hf, (Host.Outcome.next.inj hexec).symm, (Host.Outcome.next.inj h').symm⟩

/-! ## Whole commands -/

/-- Once DECODE has delivered, `DR` agrees too. -/
def DecodedAgrees (i : Instr) (t t' : State) : Prop := i = .decode → t.status.decv = true → t.dr = t'.dr

/-- From a start step on, the runs of two machines with the same inputs agree at every moment. -/
theorem StartEffect.run_agrees (h : StartEffect i f) (k : Nat) (hcr : s.cr = s'.cr) (hp : s.params = s'.params) (hm : s.mem = s'.mem)
    (hin : s.inbox = []) (hin' : s'.inbox = [])
    (hrun : Sys2Proof.core.run k (f (startCommand (commandCode i) s)) = .next t)
    (hrun' : Sys2Proof.core.run k (f (startCommand (commandCode i) s')) = .next t') :
    ControlAgrees t t' ∧ ResultAgrees i t t' ∧ DecodedAgrees i t t' := by
  obtain ⟨hcontrol, hresult⟩ := h.agrees (commandCode i) hcr
  cases h with
  | raise e x he =>
    obtain rfl := eq_of_run_terminal hrun rfl (by cases i <;> rfl) (by cases i <;> exact hin)
    obtain rfl := eq_of_run_terminal hrun' rfl (by cases i <;> rfl) (by cases i <;> exact hin')
    refine ⟨hcontrol, hresult, ?_⟩
    rintro rfl hdec
    nomatch hdec
  | finish hi v =>
    obtain rfl := eq_of_run_terminal hrun rfl rfl hin
    obtain rfl := eq_of_run_terminal hrun' rfl rfl hin'
    refine ⟨hcontrol, hresult, ?_⟩
    rintro rfl
    exact absurd hi (by decide)
  | walk empty =>
    have hbeside : startWalk empty (startAccumulator (startCommand 1 s'))
        = besideClassify (startWalk empty (startAccumulator (startCommand 1 s'))) (startWalk empty (startAccumulator (startCommand 1 s))) := by
      obtain ⟨⟩ := s
      obtain ⟨⟩ := s'
      simp only at hcr hp hm hin hin'
      subst hcr hp hm hin hin'
      rfl
    have hmap := run_besideClassify (startWalk empty (startAccumulator (startCommand 1 s'))) hrun ⟨rfl, hin⟩ rfl
    obtain rfl := Host.Outcome.next.inj (hmap.symm.trans ((congrArg (Sys2Proof.core.run k) hbeside.symm).trans hrun'))
    exact ⟨⟨rfl, rfl, rfl, rfl⟩, ⟨fun _ => ⟨rfl, rfl, rfl⟩, nofun, nofun, fun h => absurd h (by decide)⟩, nofun⟩
  | reduce =>
    have hbeside : startPixelPass .pass1 (startStatistics (startCommand 3 s'))
        = besideStats (startPixelPass .pass1 (startStatistics (startCommand 3 s'))) (startPixelPass .pass1 (startStatistics (startCommand 3 s))) := by
      obtain ⟨⟩ := s
      obtain ⟨⟩ := s'
      simp only at hcr hp hm hin hin'
      subst hcr hp hm hin hin'
      rfl
    have hmap := run_besideStats (startPixelPass .pass1 (startStatistics (startCommand 3 s'))) hrun ⟨rfl, hin⟩ rfl
    obtain rfl := Host.Outcome.next.inj (hmap.symm.trans ((congrArg (Sys2Proof.core.run k) hbeside.symm).trans hrun'))
    exact ⟨⟨rfl, rfl, rfl, rfl⟩, ⟨nofun, fun _ => ⟨rfl, rfl⟩, nofun, fun h => absurd h (by decide)⟩, nofun⟩
  | fetch =>
    cases k with
    | zero =>
      obtain rfl := Host.Outcome.next.inj hrun
      obtain rfl := Host.Outcome.next.inj hrun'
      exact ⟨hcontrol, hresult, fun _ hdec => nomatch hdec⟩
    | succ k =>
      obtain ⟨u, hu, hrun⟩ := run_succ_eq_next Sys2Proof.core hrun
      obtain ⟨u', hu', hrun'⟩ := run_succ_eq_next Sys2Proof.core hrun'
      have hd : ∀ s, Decoding (setDecv false (startCommand 2 s)) := fun s => ⟨rfl, rfl⟩
      have hblock : ∀ s u, s.inbox = [] → step (setDecv false (startCommand 2 s)) = .next u →
          blockStep (setDecv false (startCommand 2 s)) = .next u := by
        intro s u hin hu
        have hq : Quiet (setDecv false (startCommand 2 s)) := ⟨rfl, hin⟩
        rwa [hq.step_running rfl, coreStep_cmd2 (hd s).2] at hu
      obtain ⟨f, ⟨d, rfl⟩ | ⟨x, rfl⟩, rfl, rfl⟩ := blockStep_decoding₂ (hd s) (hd s') hcr hm (hblock _ _ hin hu) (hblock _ _ hin' hu')
      all_goals
        obtain rfl := eq_of_run_terminal hrun rfl rfl hin
        obtain rfl := eq_of_run_terminal hrun' rfl rfl hin'
      · exact ⟨⟨rfl, rfl, rfl, rfl⟩, ⟨nofun, nofun, fun _ => rfl, fun h => absurd h (by decide)⟩, fun _ _ => rfl⟩
      · exact ⟨⟨rfl, rfl, rfl, rfl⟩, ⟨nofun, nofun, fun _ => rfl, fun h => absurd h (by decide)⟩, fun _ hdec => nomatch hdec⟩

/-- Settles O51: the start steps have one effect, and from it on nothing is read in which the two machines differ. -/
theorem commandPurity : Obligations.CommandPurity := by
  constructor
  · intro i s s' t t' hi hcr hp hm he he'
    obtain ⟨f, hf, rfl, rfl⟩ := exec_command_effect₂ hi hcr hp hm he he'
    obtain ⟨⟨hphase, herr, hei, hcmd⟩, hresult⟩ := hf.agrees (commandCode i) hcr
    exact ⟨hphase, herr, hei, hcmd, hresult⟩
  · intro code k s s' t t' hr hr' hc hc' hin hin' hcr hp hm hrun hrun'
    have hstep : ∀ s u, Ready s → s.crCmd = some code → s.inbox = [] → step s = .next u → exec (decodeCommand code) s = .next u := by
      intro s u hr hc hin hu
      rwa [step_command (fun ⟨rest, h⟩ => by simp [hin] at h) hr hc] at hu
    obtain ⟨u, hu, hrun⟩ := run_succ_eq_next Sys2Proof.core hrun
    obtain ⟨u', hu', hrun'⟩ := run_succ_eq_next Sys2Proof.core hrun'
    obtain ⟨f, hf, rfl, rfl⟩ := exec_command_effect₂ (isCommand_decodeCommand code) hcr hp hm
      (hstep s u hr hc hin hu) (hstep s' u' hr' hc' hin' hu')
    obtain ⟨⟨hphase, herr, hei, hcmd⟩, ⟨hclassify, hstats, hdecode, hx⟩, hdec⟩ := hf.run_agrees k hcr hp hm hin hin' hrun hrun'
    refine ⟨hphase, herr, hei, hcmd, ?_, ?_, ?_, ?_⟩
    · rintro rfl
      exact hclassify rfl
    · rintro rfl
      exact hstats rfl
    · rintro rfl
      exact ⟨hdecode rfl, hdec rfl⟩
    · rintro (rfl | rfl | rfl | rfl) <;> exact hx (by decide)

end Sys2Proof.Machine
end

section
/-!
The host's side (spec/20_memory.md section 6, spec/10_state.md sections 2, 5 and 6, spec/46_commands.md section 3): the bytes
it loads, the registers it reads and writes, and what the launch premises say of the bytes of a block.
-/
namespace Sys2Proof.Machine

variable {s : State} {fmt : Format}

/-! ## Loaded bytes -/

theorem memByte_set_self (m : Memory) (addr : Word64) (b : Byte) : memByte (Memory.set addr.toNat b m) addr = b := by
  rw [memByte, get?_set_self, Option.getD_some]

theorem memByte_set_ne (m : Memory) {addr x : Word64} (b : Byte) (h : x ≠ addr) :
    memByte (Memory.set addr.toNat b m) x = memByte m x := by
  rw [memByte, get?_set_ne fun he => h (BitVec.eq_of_toNat_eq he), memByte]

/-- A load leaves every byte from its end on to its start, around the address space, as it was (rule R70). -/
theorem memByte_memStore : ∀ (bs : List Byte) (m : Memory) {addr x : Word64}, bs.length ≤ (x - addr).toNat →
    memByte (memStore m addr bs) x = memByte m x
  | [], _, _, _, _ => rfl
  | b :: bs, m, addr, x, h => by
    rw [List.length_cons] at h
    have hne : x ≠ addr := by
      rintro rfl
      simp at h
    have hnext : bs.length ≤ (x - (addr + 1)).toNat := by
      bv_omega
    rw [memStore, memByte_memStore bs _ hnext, memByte_set_ne m b hne]

theorem memBytes_memStore : ∀ (bs : List Byte) (m : Memory) (addr : Word64), bs.length ≤ 2 ^ 64 →
    memBytes (memStore m addr bs) addr bs.length = bs
  | [], _, _, _ => rfl
  | b :: bs, m, addr, h => by
    rw [List.length_cons] at h
    have hfar : bs.length ≤ (addr - (addr + 1)).toNat := by
      bv_omega
    rw [List.length_cons, memBytes, memStore, memByte_memStore bs _ hfar, memByte_set_self,
      memBytes_memStore bs _ _ (by omega)]

/-- Settles O47: a load is one write per byte, and the last write of a byte is its own. -/
theorem loadedBytesAreRead : Obligations.LoadedBytesAreRead := fun m addr bs hlen hm =>
  ⟨memBytes_memStore bs m addr hlen, fun _ hx => memByte_memStore bs m hx, wf_memStore hm⟩

/-! ## The launch premises -/

theorem extent_named {code : Nibble} (hc : code = 2 ∨ code = 4) (hf : Format.ofTag s.cr.fmt = some fmt) :
    extent s code = s.cr.bY.toNat * s.cr.pitch.toNat + s.cr.bX.toNat * fmt.nblk + fmt.nblk := by
  have hne : code ≠ 1 := by rcases hc with rfl | rfl <;> decide
  simp only [extent, if_neg hne, if_pos hc, nblk?_of_ofTag hf, Option.getD_some]

/-- Settles O60: no address of the block wraps, and its last byte is the last of the extent. -/
theorem extentCoversExtract : Obligations.ExtentCoversExtract := by
  intro s fmt code k hc hf hlaunch hk
  obtain ⟨hwrap, _, hloaded⟩ := hlaunch
  rw [extent_named hc hf] at hwrap hloaded
  have haddr : (blockAddr s.cr fmt.nblk s.cr.bY.toNat s.cr.bX.toNat + BitVec.ofNat 64 k).toNat
      = s.cr.base.toNat + (s.cr.bY.toNat * s.cr.pitch.toNat + s.cr.bX.toNat * fmt.nblk + k) := by
    rw [blockAddr, ← BitVec.ofNat_add, BitVec.toNat_ofNat, Nat.mod_eq_of_lt (by omega)]
    omega
  obtain ⟨b, hb⟩ := Option.isSome_iff_exists.1
    (hloaded (s.cr.bY.toNat * s.cr.pitch.toNat + s.cr.bX.toNat * fmt.nblk + k) (by omega))
  rw [← haddr] at hb
  exact ⟨b, hb, by rw [memByte, hb, Option.getD_some]⟩

/-! ## Accesses -/

/-- Settles O1: the reset state, field by field. -/
theorem resetRegisters : Obligations.ResetRegisters := ⟨rfl, rfl, rfl, rfl, rfl, rfl, rfl, rfl, rfl⟩

/-- Between commands the host's next access is the step. -/
theorem step_serve {op : HostOp} {rest : List HostOp} (hr : Ready s) (hc : s.crCmd = none) (hin : s.inbox = op :: rest) :
    step s = .next (serve op { s with inbox := rest }) := by
  rw [step_eq_hostStep hr hc, hostStep_of_inbox_cons hin]

theorem write_of_ge (cr : CtrlRegs) (v : Word64) {n : Nat} (h : 11 ≤ n) : cr.write n v = cr := by
  unfold CtrlRegs.write
  split
  case h_11 => rfl
  all_goals omega

/-- A write to any number but that of `CR.CMD` writes a descriptor register, or none. -/
theorem step_write {n : Nat} {v : Word64} {rest : List HostOp} (hr : Ready s) (hc : s.crCmd = none)
    (hin : s.inbox = .write n v :: rest) (hn : n ≠ 10) : step s = .next { s with inbox := rest, cr := s.cr.write n v } := by
  rw [step_serve hr hc hin, serve, hostWrite, if_neg hn]

/-- Settles O46: each access is served as the step, and does what its clause says. -/
theorem hostAccesses : Obligations.HostAccesses := by
  refine ⟨fun s n rest hr hc hin => step_serve hr hc hin, fun s n v rest hr hc hin => ?_,
    fun s addr bs rest hr hc hin => step_serve hr hc hin, fun s k rest hr hc hin => ?_⟩
  · have hwrite := fun hn : n ≠ 10 => step_write hr hc hin hn
    refine ⟨?_, ?_, ?_, ?_, ?_, ?_, ?_, ?_, ?_, ?_, fun hn => ?_, fun hn => ?_⟩
    case refine_11 =>
      subst hn
      exact step_serve hr hc hin
    case refine_12 => rw [hwrite (by omega), write_of_ge _ _ hn]
    all_goals
      rintro rfl
      exact hwrite (by decide)
  · exact ⟨_, step_serve hr hc hin, rfl, rfl, rfl, rfl, rfl, rfl, rfl, rfl, rfl, rfl, rfl⟩

end Sys2Proof.Machine
end

section
/-!
The register map (spec/10_state.md sections 2, 5 and 6): each region of register numbers is one function of its offset, and
`STATUS` is a sum of fields that do not overlap.
-/
namespace Sys2Proof.Machine

variable {s : State}

/-! ## The regions -/

theorem readReg_of_ge {n : Nat} (h : 14 ≤ n) : readReg s n =
    if n < 16 then 0 else if n = 16 then s.total else if n < 32 then s.hist.toList.getD (n - 17) 0
    else if n < 58 then statReg s.st (n - 32) else decodeReg s.dr n := by
  unfold readReg
  split
  case h_15 => rfl
  all_goals omega

theorem readReg_hist {k : Nat} (h : k < 15) : readReg s (17 + k) = s.hist[k] := by
  rw [readReg_of_ge (by omega), if_neg (by omega), if_neg (by omega), if_pos (by omega), Nat.add_sub_cancel_left]
  simp [h]

theorem readReg_stat {k : Nat} (h : k < 26) : readReg s (32 + k) = statReg s.st k := by
  rw [readReg_of_ge (by omega), if_neg (by omega), if_neg (by omega), if_neg (by omega), if_pos (by omega),
    Nat.add_sub_cancel_left]

theorem readReg_decode {n : Nat} (h : 58 ≤ n) : readReg s n = decodeReg s.dr n := by
  rw [readReg_of_ge (by omega), if_neg (by omega), if_neg (by omega), if_neg (by omega), if_neg (by omega)]

theorem toList_getD {α : Type} {n : Nat} (v : Vector α n) (k : Fin n) (d : α) : v.toList.getD k.val d = v[k] := by
  simp

theorem toList_replicate_getD {α : Type} (n k : Nat) (a : α) : (Vector.replicate n a).toList.getD k a = a := by
  rw [Vector.toList_replicate, List.getD_eq_getElem?_getD, List.getElem?_replicate]
  split_ifs <;> rfl

/-! ## The statistics -/

section
variable (st : StatRegs) (c : Fin 4)

theorem statReg_min : statReg st c.val = st.min[c].setWidth 64 := by
  rw [statReg, if_pos c.isLt, toList_getD]

theorem statReg_max : statReg st (4 + c.val) = st.max[c].setWidth 64 := by
  simp (disch := omega) only [statReg, if_neg, if_pos, Nat.add_sub_cancel_left, toList_getD]

theorem statReg_avg : statReg st (8 + c.val) = st.avg[c].setWidth 64 := by
  simp (disch := omega) only [statReg, if_neg, if_pos, Nat.add_sub_cancel_left, toList_getD]

theorem statReg_var : statReg st (12 + c.val) = st.var[c].setWidth 64 := by
  simp (disch := omega) only [statReg, if_neg, if_pos, Nat.add_sub_cancel_left, toList_getD]

theorem statReg_sd : statReg st (16 + c.val) = st.sd[c].setWidth 64 := by
  simp (disch := omega) only [statReg, if_neg, if_pos, Nat.add_sub_cancel_left, toList_getD]

theorem statReg_special : statReg st (21 + c.val) = st.special[c] := by
  simp (disch := omega) only [statReg, if_neg, if_pos, Nat.add_sub_cancel_left, toList_getD]

end

/-! ## The decode results -/

section
variable (d : DecodeResult)

theorem endpointReg_eq (v : Vector (Vector (BitVec 16) 4) 6) (e : Fin 6) (c : Fin 4) :
    endpointReg v (4 * e.val + c.val) = (v[e][c]).setWidth 64 := by
  rw [endpointReg, show (4 * e.val + c.val) / 4 = e.val by omega, show (4 * e.val + c.val) % 4 = c.val by omega, toList_getD,
    toList_getD]

theorem decodeReg_epraw (e : Fin 6) (c : Fin 4) : decodeReg d (80 + 4 * e.val + c.val) = (d.epraw[e][c]).setWidth 64 := by
  rw [Nat.add_assoc]
  simp (disch := omega) only [decodeReg, if_neg, if_pos, Nat.add_sub_cancel_left, endpointReg_eq]

theorem decodeReg_ep (e : Fin 6) (c : Fin 4) : decodeReg d (112 + 4 * e.val + c.val) = (d.ep[e][c]).setWidth 64 := by
  rw [Nat.add_assoc]
  simp (disch := omega) only [decodeReg, if_neg, if_pos, Nat.add_sub_cancel_left, endpointReg_eq]

theorem decodeReg_pb (e : Fin 6) : decodeReg d (144 + e.val) = d.pb[e].setWidth 64 := by
  simp (disch := omega) only [decodeReg, if_neg, if_pos, Nat.add_sub_cancel_left, toList_getD]

theorem decodeReg_ix0 (j : Fin 16) : decodeReg d (160 + j.val) = d.ix0[j].setWidth 64 := by
  simp (disch := omega) only [decodeReg, if_neg, if_pos, Nat.add_sub_cancel_left, toList_getD]

theorem decodeReg_ix1 (j : Fin 16) : decodeReg d (176 + j.val) = d.ix1[j].setWidth 64 := by
  simp (disch := omega) only [decodeReg, if_neg, if_pos, Nat.add_sub_cancel_left, toList_getD]

/-- The numbers from 58 on that name no register (rule R39). -/
theorem decodeReg_gap {n : Nat} (h : (58 ≤ n ∧ n < 64) ∨ (73 ≤ n ∧ n < 80) ∨ (104 ≤ n ∧ n < 112) ∨ (136 ≤ n ∧ n < 144)
    ∨ (150 ≤ n ∧ n < 160) ∨ 192 ≤ n) : decodeReg d n = 0 := by
  obtain h | h | h | h | h | h := h
  all_goals simp (disch := omega) only [decodeReg, if_neg, if_pos]

theorem decodeReg_zero (n : Nat) : decodeReg DecodeResult.zero n = 0 := by
  have hsetWidth : ∀ w, (0 : BitVec w).setWidth 64 = 0 := fun w => BitVec.setWidth_zero 64 w
  simp only [decodeReg, DecodeResult.zero, endpointReg, toList_replicate_getD, hsetWidth, ite_self]

end

/-! ## STATUS -/

/-- The fields of `STATUS` (rule R36). -/
theorem toNat_toWord (t : Status) : t.toWord.toNat = t.phase.code + 16 * t.err.code + 256 * t.histv.toNat + 512 * t.statv.toNat
    + 1024 * t.decv.toNat + 2048 * t.xv.toNat := by
  have hp : t.phase.code < 3 := by cases t.phase <;> decide
  have he : t.err.code < 7 := by cases t.err <;> decide
  have hh := t.histv.toNat_le
  have hs := t.statv.toNat_le
  have hd := t.decv.toNat_le
  have hx := t.xv.toNat_le
  rw [Status.toWord, BitVec.toNat_ofNat, Nat.mod_eq_of_lt (by omega)]

/-- Each field of `STATUS` is read at its bits, and the bits between them are 0 (rule R36). -/
theorem toWord_fields (t : Status) :
    t.toWord.extractLsb' 0 2 = BitVec.ofNat 2 t.phase.code ∧ t.toWord.extractLsb' 2 2 = 0
    ∧ (t.toWord.extractLsb' 4 3).toNat = t.err.code ∧ t.toWord.getLsbD 7 = false ∧ t.toWord.getLsbD 8 = t.histv
    ∧ t.toWord.getLsbD 9 = t.statv ∧ t.toWord.getLsbD 10 = t.decv ∧ t.toWord.getLsbD 11 = t.xv
    ∧ t.toWord.extractLsb' 12 52 = 0 := by
  have hw := toNat_toWord t
  have hp : t.phase.code < 3 := by cases t.phase <;> decide
  have he : t.err.code < 7 := by cases t.err <;> decide
  have hh := t.histv.toNat_le
  have hs := t.statv.toNat_le
  have hd := t.decv.toNat_le
  have hx := t.xv.toNat_le
  have hfield : ∀ off w, (t.toWord.extractLsb' off w).toNat = t.toWord.toNat / 2 ^ off % 2 ^ w := fun off w => by
    rw [BitVec.extractLsb'_toNat, Nat.shiftRight_eq_div_pow]
  have hfieldEq : ∀ off w v, t.toWord.toNat / 2 ^ off % 2 ^ w = v % 2 ^ w → t.toWord.extractLsb' off w = BitVec.ofNat w v :=
    fun off w v h => BitVec.eq_of_toNat_eq (by rw [hfield, BitVec.toNat_ofNat, h])
  have hbit : ∀ (k : Nat) (b : Bool), t.toWord.toNat / 2 ^ k % 2 = b.toNat → t.toWord.getLsbD k = b := fun k b h => by
    rw [← BitVec.testBit_toNat, Nat.testBit_eq_decide_div_mod_eq, h]
    cases b <;> rfl
  refine ⟨hfieldEq _ _ _ ?_, hfieldEq 2 2 0 ?_, ?_, hbit 7 false ?_, hbit 8 _ ?_, hbit 9 _ ?_, hbit 10 _ ?_, hbit 11 _ ?_,
    hfieldEq 12 52 0 ?_⟩
  case refine_3 =>
    rw [hfield]
    omega
  case refine_4 =>
    rw [Bool.toNat_false]
    omega
  all_goals omega

/-- Settles O45: a clause per region of the map, and the sum of `STATUS`. -/
theorem registerReads : Obligations.RegisterReads := by
  refine ⟨fun s => ⟨rfl, rfl, rfl, rfl, rfl, rfl, rfl, rfl, rfl, rfl, rfl, rfl, rfl, rfl, rfl, fun k => readReg_hist k.isLt,
    fun c => ⟨?_, ?_, ?_, ?_, ?_, ?_⟩, rfl, rfl, rfl, rfl, rfl, rfl, rfl, rfl, rfl, ?_, ?_, fun e c => ⟨?_, ?_⟩, fun e => ?_,
    fun j => ⟨?_, ?_⟩, fun n hn => ?_, fun hdr n hn => ?_⟩, fun t => ?_⟩
  · rw [readReg_stat (by omega), statReg_min]
  · rw [show 36 + c.val = 32 + (4 + c.val) by omega, readReg_stat (by omega), statReg_max]
  · rw [show 40 + c.val = 32 + (8 + c.val) by omega, readReg_stat (by omega), statReg_avg]
  · rw [show 44 + c.val = 32 + (12 + c.val) by omega, readReg_stat (by omega), statReg_var]
  · rw [show 48 + c.val = 32 + (16 + c.val) by omega, readReg_stat (by omega), statReg_sd]
  · rw [show 53 + c.val = 32 + (21 + c.val) by omega, readReg_stat (by omega), statReg_special]
  · exact (readReg_decode (by decide)).trans (congrArg (BitVec.setWidth 64) (toList_getD s.dr.c565 0 0))
  · exact (readReg_decode (by decide)).trans (congrArg (BitVec.setWidth 64) (toList_getD s.dr.c565 1 0))
  · rw [readReg_decode (by omega), decodeReg_epraw]
  · rw [readReg_decode (by omega), decodeReg_ep]
  · rw [readReg_decode (by omega), decodeReg_pb]
  · rw [readReg_decode (by omega), decodeReg_ix0]
  · rw [readReg_decode (by omega), decodeReg_ix1]
  · obtain rfl | rfl | hn := hn
    · rfl
    · rfl
    · rw [readReg_decode (by omega), decodeReg_gap _ hn]
  · rw [readReg_decode (by omega), hdr, decodeReg_zero]
  · obtain ⟨hphase, hlow, herr, hbits⟩ := toWord_fields t
    refine ⟨?_, hlow, ?_, hbits⟩
    · rw [hphase]
      cases t.phase <;> rfl
    · rw [herr]
      cases t.err <;> rfl

end Sys2Proof.Machine
end

section
/-!
The fields of the decoder (spec/42_bc6h.md section 2, spec/43_bc7.md section 2, spec/30_encoding.md sections 1 and 7): a
block with the mode code of a kind decodes to that kind, and each of its fields is the sub-ranges of the kind's table.
-/
namespace Sys2Proof.Machine

variable {B : BitVec 128}

/-! ## Words -/

/-- Settles O6: the words, each evaluated. -/
theorem decodeWords : Obligations.DecodeWords :=
  ⟨by decide, by decide, by decide, by decide, by decide, by decide, by decide, by decide, by decide, by decide, by decide,
    by decide, by decide, by decide, by decide, by decide, by decide⟩

/-! ## BC6H -/

/-- A 2-bit mode code selects its kind. -/
theorem bc6hKind_of_prefix2 {p : BitVec 2} {k : Bc6hKind} (hk : bc6hPrefix k = .single 0 p) (h : B.extractLsb' 0 2 = p) :
    bc6hKind (field B 0 5) = k := by
  rw [bc6hKind_eq_iff, hk]
  exact gather_of_single.2 h

theorem bc6hKind_of_prefix5 {p : BitVec 5} {k : Bc6hKind} (hk : bc6hPrefix k = .single 0 p) (h : B.extractLsb' 0 5 = p) :
    bc6hKind (field B 0 5) = k := by
  rw [bc6hKind_eq_iff, hk]
  exact gather_of_single.2 h

/-- A split field is its first sub-range, shifted to its place, and the rest (rule R144). -/
theorem gather_cons (W off w sh : Nat) (B : BitVec 128) (ps : List Part) :
    gather W B (⟨off, w, sh⟩ :: ps) = ((B.extractLsb' off w).setWidth W <<< sh) ||| gather W B ps := rfl

theorem gather_nil (W : Nat) (B : BitVec 128) : gather W B [] = 0#W := rfl

/-- Settles O12: the table of each mode, its sub-ranges reassembled. -/
theorem bc6hFieldsModes1To6 : Obligations.Bc6hFieldsModes1To6 := by
  refine fun B => ⟨fun h => ?_, fun h => ?_, fun h => ?_, fun h => ?_, fun h => ?_, fun h => ?_⟩
  · rw [decodeBits, decodeBc6h, bc6hKind_of_prefix2 (k := .m1) rfl h]
    simp only [bc6hTwoOfBlock, bc6hM1Layout, gather_nil, gather_cons, field, BitVec.setWidth_eq,
      BitVec.shiftLeft_zero, BitVec.or_zero, BitVec.or_assoc]
  · rw [decodeBits, decodeBc6h, bc6hKind_of_prefix2 (k := .m2) rfl h]
    simp only [bc6hTwoOfBlock, bc6hM2Layout, gather_nil, gather_cons, field, BitVec.setWidth_eq,
      BitVec.shiftLeft_zero, BitVec.or_zero, BitVec.or_assoc]
  · rw [decodeBits, decodeBc6h, bc6hKind_of_prefix5 (k := .m3) rfl h]
    simp only [bc6hTwoOfBlock, bc6hM3Layout, gather_nil, gather_cons, field, BitVec.setWidth_eq,
      BitVec.shiftLeft_zero, BitVec.or_zero, BitVec.or_assoc]
  · rw [decodeBits, decodeBc6h, bc6hKind_of_prefix5 (k := .m4) rfl h]
    simp only [bc6hTwoOfBlock, bc6hM4Layout, gather_nil, gather_cons, field, BitVec.setWidth_eq,
      BitVec.shiftLeft_zero, BitVec.or_zero, BitVec.or_assoc]
  · rw [decodeBits, decodeBc6h, bc6hKind_of_prefix5 (k := .m5) rfl h]
    simp only [bc6hTwoOfBlock, bc6hM5Layout, gather_nil, gather_cons, field, BitVec.setWidth_eq,
      BitVec.shiftLeft_zero, BitVec.or_zero, BitVec.or_assoc]
  · rw [decodeBits, decodeBc6h, bc6hKind_of_prefix5 (k := .m6) rfl h]
    simp only [bc6hTwoOfBlock, bc6hM6Layout, gather_nil, gather_cons, field, BitVec.setWidth_eq,
      BitVec.shiftLeft_zero, BitVec.or_zero, BitVec.or_assoc]

/-- Settles O13: the table of each mode, its sub-ranges reassembled. -/
theorem bc6hFieldsModes7To14 : Obligations.Bc6hFieldsModes7To14 := by
  refine fun B => ⟨fun h => ?_, fun h => ?_, fun h => ?_, fun h => ?_, fun h => ?_, fun h => ?_, fun h => ?_, fun h => ?_⟩
  · rw [decodeBits, decodeBc6h, bc6hKind_of_prefix5 (k := .m7) rfl h]
    simp only [bc6hTwoOfBlock, bc6hM7Layout, gather_nil, gather_cons, field, BitVec.setWidth_eq,
      BitVec.shiftLeft_zero, BitVec.or_zero, BitVec.or_assoc]
  · rw [decodeBits, decodeBc6h, bc6hKind_of_prefix5 (k := .m8) rfl h]
    simp only [bc6hTwoOfBlock, bc6hM8Layout, gather_nil, gather_cons, field, BitVec.setWidth_eq,
      BitVec.shiftLeft_zero, BitVec.or_zero, BitVec.or_assoc]
  · rw [decodeBits, decodeBc6h, bc6hKind_of_prefix5 (k := .m9) rfl h]
    simp only [bc6hTwoOfBlock, bc6hM9Layout, gather_nil, gather_cons, field, BitVec.setWidth_eq,
      BitVec.shiftLeft_zero, BitVec.or_zero, BitVec.or_assoc]
  · rw [decodeBits, decodeBc6h, bc6hKind_of_prefix5 (k := .m10) rfl h]
    simp only [bc6hTwoOfBlock, bc6hM10Layout, gather_nil, gather_cons, field, BitVec.setWidth_eq,
      BitVec.shiftLeft_zero, BitVec.or_zero, BitVec.or_assoc]
  · rw [decodeBits, decodeBc6h, bc6hKind_of_prefix5 (k := .m11) rfl h]
    simp only [bc6hOneOfBlock, bc6hM11Layout, gather_nil, gather_cons, field, BitVec.setWidth_eq,
      BitVec.shiftLeft_zero, BitVec.or_zero]
  · rw [decodeBits, decodeBc6h, bc6hKind_of_prefix5 (k := .m12) rfl h]
    simp only [bc6hOneOfBlock, bc6hM12Layout, gather_nil, gather_cons, field, BitVec.setWidth_eq,
      BitVec.shiftLeft_zero, BitVec.or_zero]
  · rw [decodeBits, decodeBc6h, bc6hKind_of_prefix5 (k := .m13) rfl h]
    simp only [bc6hOneOfBlock, bc6hM13Layout, gather_nil, gather_cons, field, BitVec.setWidth_eq,
      BitVec.shiftLeft_zero, BitVec.or_zero, BitVec.or_assoc]
  · rw [decodeBits, decodeBc6h, bc6hKind_of_prefix5 (k := .m14) rfl h]
    simp only [bc6hOneOfBlock, bc6hM14Layout, gather_nil, gather_cons, field, BitVec.setWidth_eq,
      BitVec.shiftLeft_zero, BitVec.or_zero, BitVec.or_assoc]

/-! ## BC7 -/

theorem bc7Kind_of_prefix {n : Nat} {p : BitVec n} {k : Bc7Kind} (hk : bc7Prefix k = .single 0 p) (h : B.extractLsb' 0 n = p) :
    bc7Kind (field B 0 8) = k := by
  rw [bc7Kind_eq_iff, hk]
  exact gather_of_single.2 h

/-- A field that the mode does not have is empty. -/
theorem field_zero_width (B : BitVec 128) (off : Nat) : field B off 0 = 0 := Subsingleton.elim _ _

theorem fieldVec_zero_width (B : BitVec 128) (off n : Nat) : fieldVec B off 0 n = Vector.replicate n 0 := by
  refine Vector.ext fun e he => ?_
  rw [fieldVec, Vector.getElem_ofFn, Vector.getElem_replicate]
  exact field_zero_width _ _

theorem fieldVec_eq_of_toList {off w n : Nat} {v : Vector (BitVec w) n}
    (h : v.toList = (List.range n).map fun e => B.extractLsb' (off + e * w) w) : fieldVec B off w n = v := by
  rw [← Vector.toList_inj, h, fieldVec, Vector.toList_ofFn]
  refine List.ext_getElem (by simp) fun e _ _ => ?_
  rw [List.getElem_ofFn, List.getElem_map, List.getElem_range]
  rfl

/-- Settles O14: the fields of each mode follow each other from its mode code on. -/
theorem bc7FieldsModes0To7 : Obligations.Bc7FieldsModes0To7 := by
  refine fun B => ⟨fun h => ?_, fun h => ?_, fun h => ?_, fun h => ?_, fun h => ?_, fun h => ?_, fun h => ?_, fun h => ?_⟩
  · rw [decodeBits, decodeBc7, bc7Kind_of_prefix (k := .m0) rfl h, bc7OfBlock, Instr.bc7M0.injEq, Bc7Fields.mk.injEq]
    exact ⟨rfl, field_zero_width _ _, field_zero_width _ _, fieldVec_eq_of_toList rfl, fieldVec_eq_of_toList rfl, fieldVec_eq_of_toList rfl,
      fieldVec_zero_width _ _ _, fieldVec_eq_of_toList rfl, rfl, field_zero_width _ _⟩
  · rw [decodeBits, decodeBc7, bc7Kind_of_prefix (k := .m1) rfl h, bc7OfBlock, Instr.bc7M1.injEq, Bc7Fields.mk.injEq]
    exact ⟨rfl, field_zero_width _ _, field_zero_width _ _, fieldVec_eq_of_toList rfl, fieldVec_eq_of_toList rfl, fieldVec_eq_of_toList rfl,
      fieldVec_zero_width _ _ _, fieldVec_eq_of_toList rfl, rfl, field_zero_width _ _⟩
  · rw [decodeBits, decodeBc7, bc7Kind_of_prefix (k := .m2) rfl h, bc7OfBlock, Instr.bc7M2.injEq, Bc7Fields.mk.injEq]
    exact ⟨rfl, field_zero_width _ _, field_zero_width _ _, fieldVec_eq_of_toList rfl, fieldVec_eq_of_toList rfl, fieldVec_eq_of_toList rfl,
      fieldVec_zero_width _ _ _, fieldVec_eq_of_toList rfl, rfl, field_zero_width _ _⟩
  · rw [decodeBits, decodeBc7, bc7Kind_of_prefix (k := .m3) rfl h, bc7OfBlock, Instr.bc7M3.injEq, Bc7Fields.mk.injEq]
    exact ⟨rfl, field_zero_width _ _, field_zero_width _ _, fieldVec_eq_of_toList rfl, fieldVec_eq_of_toList rfl, fieldVec_eq_of_toList rfl,
      fieldVec_zero_width _ _ _, fieldVec_eq_of_toList rfl, rfl, field_zero_width _ _⟩
  · rw [decodeBits, decodeBc7, bc7Kind_of_prefix (k := .m4) rfl h, bc7OfBlock, Instr.bc7M4.injEq, Bc7Fields.mk.injEq]
    exact ⟨field_zero_width _ _, rfl, rfl, fieldVec_eq_of_toList rfl, fieldVec_eq_of_toList rfl, fieldVec_eq_of_toList rfl,
      fieldVec_eq_of_toList rfl, fieldVec_eq_of_toList rfl, rfl, rfl⟩
  · rw [decodeBits, decodeBc7, bc7Kind_of_prefix (k := .m5) rfl h, bc7OfBlock, Instr.bc7M5.injEq, Bc7Fields.mk.injEq]
    exact ⟨field_zero_width _ _, rfl, field_zero_width _ _, fieldVec_eq_of_toList rfl, fieldVec_eq_of_toList rfl, fieldVec_eq_of_toList rfl,
      fieldVec_eq_of_toList rfl, fieldVec_eq_of_toList rfl, rfl, rfl⟩
  · rw [decodeBits, decodeBc7, bc7Kind_of_prefix (k := .m6) rfl h, bc7OfBlock, Instr.bc7M6.injEq, Bc7Fields.mk.injEq]
    exact ⟨field_zero_width _ _, field_zero_width _ _, field_zero_width _ _, fieldVec_eq_of_toList rfl, fieldVec_eq_of_toList rfl, fieldVec_eq_of_toList rfl,
      fieldVec_eq_of_toList rfl, fieldVec_eq_of_toList rfl, rfl, field_zero_width _ _⟩
  · rw [decodeBits, decodeBc7, bc7Kind_of_prefix (k := .m7) rfl h, bc7OfBlock, Instr.bc7M7.injEq, Bc7Fields.mk.injEq]
    exact ⟨rfl, field_zero_width _ _, field_zero_width _ _, fieldVec_eq_of_toList rfl, fieldVec_eq_of_toList rfl, fieldVec_eq_of_toList rfl,
      fieldVec_eq_of_toList rfl, fieldVec_eq_of_toList rfl, rfl, field_zero_width _ _⟩

/-! ## Tags and reserved encodings -/

theorem ofTag_eq_none_iff (tag : Nibble) : Format.ofTag tag = none ↔ tag = 0 ∨ 11 ≤ tag.toNat := by
  revert tag
  decide

theorem decodeBlock_of_length_ne {fmt : Format} {bytes : List Byte} (h : bytes.length ≠ fmt.nblk) :
    decodeBlock fmt.tag bytes = .error .wrongLength := by
  simp only [decodeBlock, ofTag_tag, if_neg h]

/-- The decoder refuses a tag by name exactly where it names no format (rule R109). -/
theorem decodeBlock_eq_unsupported_iff (tag : Nibble) (bytes : List Byte) :
    decodeBlock tag bytes = .error .unsupportedFormat ↔ Format.ofTag tag = none := by
  cases hf : Format.ofTag tag with
  | none => simp [decodeBlock, hf]
  | some fmt =>
    obtain rfl := tag_of_ofTag hf
    by_cases hl : bytes.length = fmt.nblk
    · simp [decodeBlock_of_length hf hl]
    · simp [decodeBlock_of_length_ne hl]

/-- A block decodes to a kind of its format exactly when it holds the kind's fields. -/
theorem decodeBits_eq_iff {fmt : Format} {i : Instr} (ht : fmt.tag ∈ tagsOf i) : decodeBits fmt B = i ↔ Holds B (fieldsOf i) :=
  ⟨fun h => h ▸ (decodeBits_spec fmt B).2.2, decodeBits_of_holds ht⟩

/-- The kinds of a format have that format's tags alone. -/
theorem tagsOf_of_mem {i : Instr} {tag : Nibble} (h : tag ∈ tagsOf i) : tagsOf i = if tag = 8 ∨ tag = 9 then [8, 9] else [tag] := by
  have hall : ([[1], [2], [3], [4], [5], [6], [7], [8, 9], [10], []] : List (List Nibble)).elem (tagsOf i) = true := by
    cases i <;> rfl
  have hlists := List.elem_iff.1 hall
  have htags : ∀ L ∈ ([[1], [2], [3], [4], [5], [6], [7], [8, 9], [10], []] : List (List Nibble)), ∀ tag ∈ L,
      L = if tag = 8 ∨ tag = 9 then [8, 9] else [tag] := by decide
  exact htags _ hlists _ h

/-- The integer of a list of bytes as the sum of rule R7. -/
theorem leNat_eq_sum : ∀ bytes : List Byte, leNat bytes = ((List.range bytes.length).map fun i => (bytes.getD i 0).toNat * 2 ^ (8 * i)).sum
  | [] => rfl
  | b :: bytes => by
    rw [leNat, leNat_eq_sum bytes, List.length_cons, List.range_succ_eq_map, List.map_cons, List.sum_cons, List.map_map,
      ← List.sum_map_mul_left]
    refine congrArg₂ (· + ·) (by simp) (congrArg List.sum (List.map_congr_left fun i _ => ?_))
    rw [Function.comp_apply, Nat.succ_eq_add_one, List.getD_cons_succ, Nat.mul_add, Nat.pow_add]
    ring

theorem blockOfBytes_eq_sum (bytes : List Byte) : blockOfBytes bytes =
    BitVec.ofNat 128 ((List.range bytes.length).map fun i => (bytes.getD i 0).toNat * 2 ^ (8 * i)).sum := by
  rw [blockOfBytes, leNat_eq_sum]

/-- Settles O11: the tags by their table, the reserved kinds by the fields they hold. -/
theorem reservedEncodings : Obligations.ReservedEncodings := by
  refine ⟨fun tag bytes => (decodeBlock_eq_unsupported_iff tag bytes).trans (ofTag_eq_none_iff tag),
    fun B => ⟨?_, ?_, ?_, ?_, ?_, rfl⟩, fun r hr => ?_, fun B => ⟨⟨_, _, _, rfl⟩, ⟨_, _, _, _, rfl⟩, ⟨_, _, _, _, _, _, rfl⟩,
      ⟨_, _, _, rfl⟩, ⟨_, _, _, rfl⟩, ⟨_, _, _, _, _, _, rfl⟩, ⟨_, _, _, _, _, _, rfl⟩⟩⟩
  case refine_6 =>
    have htable : r.1 = r.2.1.tag ∧ r.2.2 = r.2.1.nblk := by
      revert r
      decide
    obtain ⟨tag, fmt, n⟩ := r
    obtain ⟨rfl, rfl⟩ : tag = fmt.tag ∧ n = fmt.nblk := htable
    exact ⟨ofTag_tag fmt, rfl, rfl, fun bytes hl => by rw [decodeBlock_of_length (ofTag_tag fmt) hl, blockOfBytes_eq_sum],
      fun bytes hl => decodeBlock_of_length_ne hl, fun B => tagsOf_of_mem (decodeBits_spec fmt B).2.1⟩
  all_goals
    rw [decodeBits_eq_iff List.mem_cons_self]
    simp only [fieldsOf, bc6hPrefix, bc7Prefix, holds_cons, gather_of_single, holds_nil, field, and_true]

end Sys2Proof.Machine
end

section
/-!
A whole CLASSIFY (spec/44_classifier.md section 3): the state of the pass before its `n`-th block, two steps from one to the
next, and the counts of rule R267 as those of the lists in walk order.
-/
namespace Sys2Proof.Machine

variable {s t : State} {fmt : Format}

/-! ## Lists of buckets -/

theorem nodup_spec_buckets (p : Params) (fmt : Format) (B : BitVec 128) : (Spec.buckets p fmt B).Nodup := by
  have hpair : ∀ x y : Nat, x = 0 ∨ x = 1 → y = 0 ∨ y = 1 → [x, 2 + y].Nodup := by
    rintro x y (rfl | rfl) (rfl | rfl) <;> decide
  cases fmt with
  | bc5u | bc5s => exact hpair _ _ (bc4Bucket_cases _ B 0) (bc4Bucket_cases _ B 64)
  | bc2 =>
    simp only [Spec.buckets]
    split_ifs
    · exact List.nodup_singleton _
    · exact List.nodup_nil
  | _ => exact List.nodup_singleton _

/-- Lists without repetition name a member as often as there are lists that contain it. -/
theorem count_flatMap_eq_countP {α : Type} {f : α → List Nat} (hf : ∀ a, (f a).Nodup) (k : Nat) :
    ∀ l : List α, (l.flatMap f).count k = l.countP fun a => (f a).contains k
  | [] => rfl
  | a :: l => by
    rw [List.flatMap_cons, List.count_append, count_flatMap_eq_countP hf k l, List.countP_cons, List.Nodup.count (hf a),
      Nat.add_comm]
    simp

/-- The walk in cursor order, by the number of the block. -/
theorem walk_eq_map_range (nr : Nat) {nc : Nat} (hnc : 0 < nc) :
    Spec.walk nr nc = (List.range (nr * nc)).map fun n => (n / nc, n % nc) := by
  induction nr with
  | zero => simp [Spec.walk]
  | succ nr ih =>
    have hrow : ∀ x ∈ List.range nc, (nr, x) = ((nr * nc + x) / nc, (nr * nc + x) % nc) := fun x hx => by
      have hx := List.mem_range.1 hx
      rw [Nat.mul_add_mod_of_lt hx, Nat.mul_comm, Nat.mul_add_div hnc, Nat.div_eq_of_lt hx, Nat.add_zero]
    rw [Spec.walk] at ih ⊢
    rw [List.range_succ, List.flatMap_append, ih, Nat.succ_mul, List.range_add, List.map_append, List.map_map,
      List.flatMap_singleton, List.map_congr_left hrow]
    rfl

theorem bucketCount_eq_count (s : State) (fmt : Format) {nr nc : Nat} (hnr : nr = Spec.blockRows s.cr)
    (hnc : nc = Spec.blockCols s.params s.cr fmt.nblk) (k : Nat) : Spec.bucketCount s fmt k =
      ((List.range (nr * nc)).flatMap fun n => Spec.buckets s.params fmt (Spec.block s fmt.nblk (n / nc) (n % nc))).count k := by
  rw [count_flatMap_eq_countP (fun n => nodup_spec_buckets _ _ _), Spec.bucketCount, ← hnr, ← hnc]
  obtain rfl | hpos := Nat.eq_zero_or_pos nc
  · simp [Spec.walk]
  · rw [walk_eq_map_range nr hpos, List.countP_map]
    rfl

/-! ## Cursors -/

/-- The next number in the same row. -/
theorem div_mod_succ_of_lt {n w : Nat} (h : n % w + 1 < w) : (n + 1) / w = n / w ∧ (n + 1) % w = n % w + 1 := by
  have hn : n + 1 = w * (n / w) + (n % w + 1) := by rw [← Nat.add_assoc, Nat.div_add_mod]
  constructor
  · rw [hn, Nat.mul_add_div (by omega), Nat.div_eq_of_lt h, Nat.add_zero]
  · rw [hn, Nat.mul_add_mod, Nat.mod_eq_of_lt h]

/-- The first number of the next row. -/
theorem div_mod_succ_of_le {n w : Nat} (hw : 0 < w) (h : w ≤ n % w + 1) : (n + 1) / w = n / w + 1 ∧ (n + 1) % w = 0 := by
  have hlast : n % w + 1 = w := le_antisymm (Nat.mod_lt n hw) h
  have hsplit := Nat.div_add_mod n w
  have hn : n + 1 = w * (n / w + 1) := by
    rw [Nat.mul_succ]
    omega
  constructor
  · rw [hn, Nat.mul_div_cancel_left _ hw]
  · rw [hn, Nat.mul_mod_right]

theorem toNat_ofNat_of_lt {c b : Nat} (h : c < b) (hb : b ≤ 2 ^ 64) : (BitVec.ofNat 64 c : Word64).toNat = c := by
  rw [BitVec.toNat_ofNat, Nat.mod_eq_of_lt (by omega)]

/-- The last number of the last row. -/
theorem div_mod_last {h w : Nat} (hpos : 0 < h * w) : (h * w - 1) / w = h - 1 ∧ (h * w - 1) % w = w - 1 := by
  have hh := Nat.pos_of_mul_pos_right hpos
  have hw := Nat.pos_of_mul_pos_left hpos
  have hlt : w - 1 < w := by omega
  have hlast : h * w - 1 = w * (h - 1) + (w - 1) := by
    rw [Nat.mul_sub_one, Nat.mul_comm w h]
    have hle : w ≤ h * w := Nat.le_mul_of_pos_left w hh
    omega
  rw [hlast, Nat.mul_add_div hw, Nat.div_eq_of_lt hlt, Nat.mul_add_mod, Nat.mod_eq_of_lt hlt]
  exact ⟨rfl, rfl⟩

/-! ## The pass, block by block -/

/-- The list of the `n`-th block of the walk (rule R254). -/
def blockList (s : State) (fmt : Format) (nc n : Nat) : List (Fin 15) :=
  bucketsOf s.params (decodeBits fmt (Spec.block s fmt.nblk (n / nc) (n % nc)))

/-- The pass that has counted the first `n` blocks, at DISPATCH with the cursor on block `c`. -/
def passAt (s : State) (fmt : Format) (nc n c : Nat) : State :=
  { s with
    total := BitVec.ofNat 64 n
    hist := ((List.range n).flatMap (blockList s fmt nc)).foldl bumpBucket s.hist
    buckets := [], exhausted := false
    hs := { s.hs with step := .dispatch, bY := BitVec.ofNat 64 (c / nc), bX := BitVec.ofNat 64 (c % nc) } }

theorem step_quiet (hn : noResetNext s) (hp : s.status.phase = .run) : step s = coreStep s := by
  rw [step_running (not_resetNow_of_noResetNext hn) hp, tickReset_of_noResetNext hn]

/-- The two steps of a block: its dispatch and its count. -/
theorem run_block (m : Nat) (hn : noResetNext s) (hd : Dispatching s) (hf : Format.ofTag s.cr.fmt = some fmt) :
    Sys2Proof.core.run (m + 2) s = Sys2Proof.core.run m (accumStep (dispatchBlock (bucketsOf s.params
      (decodeBits fmt (Spec.block s fmt.nblk s.hs.bY.toNat s.hs.bX.toNat))) s)) := by
  have hdispatch := (step_quiet hn hd.1.1).trans ((coreStep_fetch (.inl hd)).trans ((blockStep_classifying hf hd.1.2).trans
    (exec_block_dispatching (isCommand_decodeBits _ _) hd)))
  refine (run_succ (m + 1) hdispatch).trans (run_succ m ?_)
  generalize bucketsOf _ _ = L
  exact (step_quiet (s := dispatchBlock L s) hn hd.1.1).trans (coreStep_accumulating ⟨hd.1, rfl⟩)

section
variable {nr nc n : Nat}

/-- Counting the block at the cursor is counting the `n`-th block. -/
theorem accumulate_passAt (s : State) (fmt : Format) (nc n : Nat) :
    accumulate (dispatchBlock (blockList s fmt nc n) (passAt s fmt nc n n)) = setHStep .accum (passAt s fmt nc (n + 1) n) := by
  rw [passAt, passAt, List.range_succ, List.flatMap_append, List.foldl_append, List.flatMap_singleton, BitVec.ofNat_add]
  rfl

/-- From one block to the next, and from the last block past it (rule R30). -/
theorem accumStep_passAt (hnr : nrows s.cr = nr) (hnc : colsOf s = nc) (hn : n < nr * nc) :
    accumStep (dispatchBlock (blockList s fmt nc n) (passAt s fmt nc n n)) =
      if n + 1 < nr * nc then passAt s fmt nc (n + 1) (n + 1) else setExhausted true (passAt s fmt nc (n + 1) n) := by
  have hpos : 0 < nc := Nat.pos_of_ne_zero fun h => by simp [h] at hn
  have hy : n / nc < nr := (Nat.div_lt_iff_lt_mul hpos).2 hn
  have hX := toNat_ofNat_of_lt (Nat.mod_lt n hpos) (hnc ▸ colsOf_le s)
  have hY := toNat_ofNat_of_lt hy (hnr ▸ nrows_le s.cr)
  have hnext : n + 1 < nr * nc ↔ (n + 1) / nc < nr := (Nat.div_lt_iff_lt_mul hpos).symm
  rw [accumStep, accumulate_passAt]
  change setHStep .dispatch (advance (nrows s.cr) (colsOf s) _) = _
  rw [hnr, hnc]
  obtain ⟨h, e⟩ | ⟨h, h', e⟩ | ⟨h, h', e⟩ := advance_cases nr nc (setHStep .accum (passAt s fmt nc (n + 1) n))
  all_goals
    rw [e]
    simp only [setHStep_hs, passAt, hX] at h
  · obtain ⟨hdiv, hmod⟩ := div_mod_succ_of_lt h
    rw [if_pos (hnext.2 (by omega)), passAt, passAt, hdiv, hmod, BitVec.ofNat_add (n % nc) 1]
    rfl
  · simp only [setHStep_hs, passAt, hY] at h'
    obtain ⟨hdiv, hmod⟩ := div_mod_succ_of_le hpos h
    rw [if_pos (hnext.2 (by omega)), passAt, passAt, hdiv, hmod, BitVec.ofNat_add (n / nc) 1]
    rfl
  · simp only [setHStep_hs, passAt, hY] at h'
    obtain ⟨hdiv, _⟩ := div_mod_succ_of_le hpos h
    rw [if_neg fun hlt => absurd (hnext.1 hlt) (by omega)]
    rfl

/-- The rest of the pass, from the `n`-th block to past the last one. -/
theorem run_passAt (m : Nat) (hq : noResetNext s) (hc : Classifying s) (hf : Format.ofTag s.cr.fmt = some fmt)
    (hnr : nrows s.cr = nr) (hnc : colsOf s = nc) : ∀ (j n : Nat), n + j + 1 = nr * nc →
    Sys2Proof.core.run (m + 2 * (j + 1)) (passAt s fmt nc n n)
      = Sys2Proof.core.run m (setExhausted true (passAt s fmt nc (nr * nc) (nr * nc - 1))) := by
  have hblock : ∀ m n, n < nr * nc → Sys2Proof.core.run (m + 2) (passAt s fmt nc n n)
      = Sys2Proof.core.run m (accumStep (dispatchBlock (blockList s fmt nc n) (passAt s fmt nc n n))) := by
    intro m n hn
    have hpos : 0 < nc := Nat.pos_of_ne_zero fun h => by simp [h] at hn
    have hX := toNat_ofNat_of_lt (Nat.mod_lt n hpos) (hnc ▸ colsOf_le s)
    have hY := toNat_ofNat_of_lt ((Nat.div_lt_iff_lt_mul hpos).2 hn) (hnr ▸ nrows_le s.cr)
    have h := run_block (s := passAt s fmt nc n n) m hq ⟨hc, rfl, rfl⟩ hf
    simp only [show (passAt s fmt nc n n).hs.bX = BitVec.ofNat 64 (n % nc) from rfl,
      show (passAt s fmt nc n n).hs.bY = BitVec.ofNat 64 (n / nc) from rfl, hX, hY] at h
    exact h
  intro j
  induction j with
  | zero =>
    intro n hn
    refine (hblock m n (by omega)).trans ?_
    rw [accumStep_passAt hnr hnc (by omega), if_neg (by omega), show n + 1 = nr * nc by omega, show nr * nc - 1 = n by omega]
  | succ j ih =>
    intro n hn
    refine (hblock (m + 2 * (j + 1)) n (by omega)).trans ?_
    rw [accumStep_passAt hnr hnc (by omega), if_pos (by omega)]
    exact ih (n + 1) (by omega)

/-- A pass from its start: past the last block, whether or not there is one, and then its end (rules R252, R264). -/
theorem run_walk (hq : noResetNext s) (hc : Classifying s) (hf : Format.ofTag s.cr.fmt = some fmt)
    (hnr : nrows s.cr = nr) (hnc : colsOf s = nc) :
    Sys2Proof.core.run (2 * (nr * nc) + 1) (startWalk (decide (nr = 0 ∨ nc = 0)) (startAccumulator s)) =
      .next (endPass (setExhausted true (passAt (startAccumulator s) fmt nc (nr * nc) (nr * nc - 1)))) := by
  have hend : Sys2Proof.core.run 1 (setExhausted true (passAt (startAccumulator s) fmt nc (nr * nc) (nr * nc - 1))) =
      .next (endPass (setExhausted true (passAt (startAccumulator s) fmt nc (nr * nc) (nr * nc - 1)))) := by
    rw [run_one]
    generalize hx : setExhausted true _ = x
    have hx' : noResetNext x ∧ PassExhausted x := by
      rw [← hx]
      exact ⟨hq, hc, rfl, rfl⟩
    exact (step_quiet hx'.1 hx'.2.1.1).trans (coreStep_passExhausted hx'.2)
  have hstart : passAt (startAccumulator s) fmt nc 0 0 = startWalk false (startAccumulator s) := by
    rw [passAt, Nat.zero_div, Nat.zero_mod]
    rfl
  obtain h0 | hpos := Nat.eq_zero_or_pos (nr * nc)
  · rw [decide_eq_true (Nat.mul_eq_zero.1 h0)]
    rw [h0] at hend ⊢
    have hexh : setExhausted true (passAt (startAccumulator s) fmt nc 0 0) = startWalk true (startAccumulator s) := by
      rw [hstart]
      rfl
    rw [Nat.zero_sub, hexh] at hend
    rwa [Nat.zero_sub, hexh]
  · rw [decide_eq_false fun h => hpos.ne' (Nat.mul_eq_zero.2 h), ← hstart]
    have hrun := run_passAt (s := startAccumulator s) 1 hq hc hf hnr hnc (nr * nc - 1) 0 (by omega)
    rw [show 1 + 2 * (nr * nc - 1 + 1) = 2 * (nr * nc) + 1 by omega] at hrun
    exact hrun.trans hend

end

/-- Settles O29: the start of O27, the walk, and the lists counted as rule R267 counts them. -/
theorem classifyPassCounts : Obligations.ClassifyPassCounts := by
  intro s fmt nr nc hnr hnc hr hn hc hf hb
  have hnr' : nrows s.cr = nr := (nrows_eq_floor s.cr).trans hnr.symm
  have hnc' : ncols s.params s.cr fmt.nblk = nc := (ncols_eq_blockCols _ _ (nblk_pos fmt)).trans hnc.symm
  have hcols : colsOf s = nc := (colsOf_of_ofTag hf).trans hnc'
  have hstep : step s = .next (startWalk (decide (nr = 0 ∨ nc = 0)) (startAccumulator (startCommand 1 s))) := by
    rw [step_command (not_resetNow_of_noResetNext hn) hr hc, ← hnr', ← hnc']
    refine (exec_command_ready (i := .classify) rfl hr).trans (congrArg Host.Outcome.next ?_)
    exact withFormat_supported (s := startAccumulator (startCommand 1 s)) hf hb
  refine ⟨_, (run_succ _ hstep).trans (run_walk (s := startCommand 1 s) hn ⟨rfl, rfl⟩ hf hnr' hcols), rfl, rfl, fun k => ?_,
    fun hpos => ⟨?_, ?_⟩, fun h0 => ?_, rfl, rfl, rfl, rfl, rfl, rfl, rfl, rfl, rfl, rfl, rfl, rfl, rfl, rfl, rfl⟩
  · have hcount := getElem_foldl_bumpBucket k
      ((List.range (nr * nc)).flatMap (blockList (startAccumulator (startCommand 1 s)) fmt nc)) (Vector.replicate 15 0)
    refine hcount.trans ?_
    have hzero : (Vector.replicate 15 (0 : Word64))[k] = 0 := Vector.getElem_replicate _
    rw [hzero, zero_add, bucketCount_eq_count s fmt hnr hnc, ← List.count_map_of_injective _ _ Fin.val_injective,
      List.map_flatMap]
    simp only [blockList, map_val_bucketsOf]
    rfl
  · obtain ⟨hdiv, _⟩ := div_mod_last hpos
    have hlt : nr - 1 < nr := by
      have := Nat.pos_of_mul_pos_right hpos
      omega
    change (BitVec.ofNat 64 ((nr * nc - 1) / nc)).toNat + 1 = nr
    rw [hdiv, toNat_ofNat_of_lt hlt (hnr' ▸ nrows_le s.cr)]
    omega
  · obtain ⟨_, hmod⟩ := div_mod_last hpos
    have hlt : nc - 1 < nc := by
      have := Nat.pos_of_mul_pos_left hpos
      omega
    change (BitVec.ofNat 64 ((nr * nc - 1) % nc)).toNat + 1 = nc
    rw [hmod, toNat_ofNat_of_lt hlt (hcols ▸ colsOf_le s)]
    omega
  · change BitVec.ofNat 64 ((nr * nc - 1) / nc) = 0 ∧ BitVec.ofNat 64 ((nr * nc - 1) % nc) = 0
    rw [h0, Nat.zero_sub, Nat.zero_div, Nat.zero_mod]
    exact ⟨rfl, rfl⟩

end Sys2Proof.Machine
end

section
/-!
A whole STATS (spec/45_statistics.md section 2): the state after `n` pixels of each pass, one step from one to the next, and
the registers after both passes as the folds of rules R285 to R289.
-/
namespace Sys2Proof.Machine

variable {s t : State}

/-! ## The walk over the pixels -/

/-- `s` with the cursor on the `i`-th pixel of rows of `w`. -/
def onPixel (w i : Nat) (s : State) : State := setCursor (BitVec.ofNat 64 (i / w)) (BitVec.ofNat 64 (i % w)) s

section
variable {f : Nat → State} {done : State → State} {w npix n : Nat}

/-- The cursor's walk (rule R284): the next pixel in row-major order, or `done` after the last one. -/
theorem nextPixel_onPixel (hw : s.cr.width.toNat = w) (hpos : 0 < w) (hnpix : s.st.npix.toNat = npix) (hle : npix ≤ 2 ^ 64)
    (hn : n < npix) : nextPixel done (onPixel w n s) = if n + 1 < npix then onPixel w (n + 1) s else done (onPixel w n s) := by
  have hX := toNat_ofNat_of_lt (Nat.mod_lt n hpos) (hw ▸ s.cr.width.isLt.le)
  have hY := toNat_ofNat_of_lt (lt_of_le_of_lt (Nat.div_le_self n w) hn) hle
  have hsplit : n / w * w + n % w = n := Nat.div_add_mod' n w
  obtain ⟨h, h', e⟩ | ⟨h, h', e⟩ | ⟨h, e⟩ := nextPixel_cases done (onPixel w n s)
  all_goals
    rw [e]
    simp only [onPixel, setCursor_hs, setCursor_cr, setCursor_st, hw, hnpix, hX, hY, hsplit] at h
  · simp only [onPixel, setCursor_hs, setCursor_cr, hw, hX] at h'
    obtain ⟨hdiv, hmod⟩ := div_mod_succ_of_lt h'
    rw [if_pos h, onPixel, onPixel, hdiv, hmod, BitVec.ofNat_add (n % w) 1]
    rfl
  · simp only [onPixel, setCursor_hs, setCursor_cr, hw, hX] at h'
    obtain ⟨hdiv, hmod⟩ := div_mod_succ_of_le hpos h'
    rw [if_pos h, onPixel, onPixel, hdiv, hmod, BitVec.ofNat_add (n / w) 1]
    rfl
  · rw [if_neg (not_lt.2 h)]

/-- A pass over the pixels: `f n` is the state after `n` of them, but for the cursor. -/
theorem run_pixels (m : Nat) (hw : ∀ n, (f n).cr.width.toNat = w) (hpos : 0 < w) (hnpix : ∀ n, (f n).st.npix.toNat = npix)
    (hle : npix ≤ 2 ^ 64)
    (hstep : ∀ n < npix, step (onPixel w n (f n)) = .next (nextPixel done (onPixel w n (f (n + 1))))) :
    ∀ (j n : Nat), n + j + 1 = npix →
    Sys2Proof.core.run (m + (j + 1)) (onPixel w n (f n)) = Sys2Proof.core.run m (done (onPixel w (npix - 1) (f npix))) := by
  intro j
  induction j with
  | zero =>
    intro n hn
    refine (run_succ m (hstep n (by omega))).trans ?_
    rw [nextPixel_onPixel (hw _) hpos (hnpix _) hle (by omega), if_neg (by omega), show n + 1 = npix by omega,
      show npix - 1 = n by omega]
  | succ j ih =>
    intro n hn
    refine (run_succ (m + (j + 1)) (hstep n (by omega))).trans ?_
    rw [nextPixel_onPixel (hw _) hpos (hnpix _) hle (by omega), if_pos (by omega)]
    exact ih (n + 1) (by omega)

end

/-! ## Pixels -/

theorem channel_eq (P c : Nat) : channel P c = BitVec.ofNat 32 (P / 2 ^ (32 * c) % 2 ^ 32) := by
  rw [channel, Nat.shiftRight_eq_div_pow]
  exact BitVec.eq_of_toNat_eq (by simp)

/-- The pixel under the cursor is that of rule R284. -/
theorem pixelAt_onPixel {i : Nat} (hpos : 0 < s.cr.width.toNat) (hi : i < 2 ^ 64) :
    pixelAt (onPixel s.cr.width.toNat i s) = Vector.ofFn fun c => Spec.pix s i c := by
  have hX := toNat_ofNat_of_lt (Nat.mod_lt i hpos) s.cr.width.isLt.le
  have hY := toNat_ofNat_of_lt (lt_of_le_of_lt (Nat.div_le_self i s.cr.width.toNat) hi) le_rfl
  unfold pixelAt
  congr 1
  funext c
  rw [channel_eq, memRead_eq_readLE]
  simp only [onPixel, setCursor_hs, setCursor_cr, setCursor_mem, hX, hY]
  rfl

/-! ## Pass 1 -/

/-- The `ST` registers after `n` pixels of pass 1 (rule R285). -/
def pass1Regs (s : State) (n : Nat) : StatRegs :=
  { s.st with
    min := Vector.ofFn fun c => (List.range n).foldl (fun acc i => fmin s.params.nanRule acc (Spec.pix s i c)) minInit
    max := Vector.ofFn fun c => (List.range n).foldl (fun acc i => fmax s.params.nanRule acc (Spec.pix s i c)) maxInit
    maxlum := (List.range n).foldl
      (fun acc i => fmax s.params.nanRule acc (fdot3 (Spec.pix s i 0) (Spec.pix s i 1) (Spec.pix s i 2))) 0
    special := Vector.ofFn fun c => BitVec.ofNat 64 ((List.range n).countP fun i => !isFinite (Spec.pix s i c)) }

/-- The state after `n` pixels of pass 1, but for the cursor. -/
def pass1At (s : State) (n : Nat) : State :=
  { s with st := pass1Regs s n, hs := { s.hs with step := .pass1, sum := Vector.ofFn fun c => Spec.sum1 s n c } }

theorem pass1Pixel_pass1At (s : State) (w n i : Nat) :
    pass1Pixel (Vector.ofFn fun c => Spec.pix s n c) (onPixel w i (pass1At s n)) = onPixel w i (pass1At s (n + 1)) := by
  have hspecial : ∀ c, (if isFinite (Spec.pix s n c) then
      BitVec.ofNat 64 ((List.range n).countP fun i => !isFinite (Spec.pix s i c))
      else BitVec.ofNat 64 ((List.range n).countP fun i => !isFinite (Spec.pix s i c)) + 1)
      = BitVec.ofNat 64 ((List.range n ++ [n]).countP fun i => !isFinite (Spec.pix s i c)) := fun c => by
    rw [List.countP_append, List.countP_singleton, BitVec.ofNat_add]
    cases isFinite (Spec.pix s n c) <;> simp
  simp only [pass1Pixel, pass1At, pass1Regs, onPixel, setCursor, Spec.sum1, List.range_succ, List.foldl_append,
    List.foldl_cons, List.foldl_nil, Fin.getElem_fin, Vector.getElem_ofFn, Fin.eta, hspecial]
  rfl

/-! ## Pass 2 -/

/-- The sum of squared deviations over the first `n` of `npix` pixels (rule R288). -/
def deviations (s : State) (npix n : Nat) (c : Fin 4) : F32 :=
  (List.range n).foldl (fun acc i => fadd acc (squaredDeviation (Spec.pix s i c) (Spec.average s npix c))) 0

theorem deviations_self (s : State) (npix : Nat) (c : Fin 4) : deviations s npix npix c = Spec.sum2 s npix c := rfl

/-- The state after `n` pixels of pass 2 over `npix` pixels, but for the cursor. -/
def pass2At (s : State) (npix n : Nat) : State :=
  { s with
    st := { pass1Regs s npix with avg := Vector.ofFn fun c => Spec.average s npix c }
    hs := { s.hs with step := .pass2, sum := Vector.ofFn fun c => deviations s npix n c } }

theorem pass2Pixel_pass2At (s : State) (npix w n i : Nat) :
    pass2Pixel (Vector.ofFn fun c => Spec.pix s n c) (onPixel w i (pass2At s npix n)) = onPixel w i (pass2At s npix (n + 1)) := by
  simp only [pass2Pixel, pass2At, onPixel, setCursor, deviations, List.range_succ, List.foldl_append, List.foldl_cons,
    List.foldl_nil, Fin.getElem_fin, Vector.getElem_ofFn, Fin.eta]

/-- The end of pass 1 is the start of pass 2 (rules R287, R288). -/
theorem endPass1_pass1At {w npix i : Nat} (h : s.st.npix.toNat = npix) :
    endPass1 (onPixel w i (pass1At s npix)) = onPixel w 0 (pass2At s npix 0) := by
  have hnpix : (onPixel w i (pass1At s npix)).st.npix.toNat = npix := h
  simp only [endPass1, hnpix, startPixelPass]
  simp only [onPixel, pass1At, pass2At, setCursor, deviations, Spec.average, Fin.getElem_fin, Vector.getElem_ofFn, Fin.eta,
    Nat.zero_div, Nat.zero_mod, List.range_zero, List.foldl_nil]
  rfl

theorem variance_eq_spread (s : State) (n : Nat) (c : Fin 4) :
    variance s.params.varDiv n (Spec.sum2 s n c) = Spec.spread s n c := by
  unfold variance Spec.spread
  cases s.params.varDiv <;> rfl

/-- The registers at the end of pass 2 (rule R289). -/
theorem finishStats_pass2At {w npix i : Nat} (h : s.st = StatRegs.start (BitVec.ofNat 64 npix)) (hlt : npix < 2 ^ 64) :
    (finishStats (onPixel w i (pass2At s npix npix))).st = Spec.statistics s npix := by
  have hnpix : (onPixel w i (pass2At s npix npix)).st.npix.toNat = npix := by
    change s.st.npix.toNat = npix
    rw [h]
    exact toNat_ofNat_of_lt hlt le_rfl
  have hsum : (onPixel w i (pass2At s npix npix)).hs.sum = Vector.ofFn fun c => Spec.sum2 s npix c := rfl
  have hparams : (onPixel w i (pass2At s npix npix)).params = s.params := rfl
  simp only [finishStats, endCommand_st, setStatv_st, hnpix, hsum, hparams, Fin.getElem_fin, Vector.getElem_ofFn, Fin.eta,
    variance_eq_spread]
  simp only [onPixel, setCursor_st, pass2At, pass1Regs, h]
  rfl

/-! ## Both passes -/

theorem step_pass1 (hq : noResetNext s) (hr : Reducing s) (h : s.hs.step = .pass1) :
    step s = .next (nextPixel endPass1 (pass1Pixel (pixelAt s) s)) := by
  rw [step_quiet hq hr.1, coreStep_cmd3 hr.2, statsStep, h]

theorem step_pass2 (hq : noResetNext s) (hr : Reducing s) (h : s.hs.step = .pass2) :
    step s = .next (nextPixel finishStats (pass2Pixel (pixelAt s) s)) := by
  rw [step_quiet hq hr.1, coreStep_cmd3 hr.2, statsStep, h]

section
variable {npix : Nat}

theorem step_pass1At (hq : noResetNext s) (hr : Reducing s) (hpos : 0 < s.cr.width.toNat) {n : Nat} (hn : n < 2 ^ 64) :
    step (onPixel s.cr.width.toNat n (pass1At s n))
      = .next (nextPixel endPass1 (onPixel s.cr.width.toNat n (pass1At s (n + 1)))) := by
  have hpix : pixelAt (onPixel s.cr.width.toNat n (pass1At s n)) = Vector.ofFn fun c => Spec.pix s n c :=
    pixelAt_onPixel (s := pass1At s n) hpos hn
  rw [← pass1Pixel_pass1At]
  exact (step_pass1 (s := onPixel s.cr.width.toNat n (pass1At s n)) hq hr rfl).trans (by rw [hpix])

theorem step_pass2At (hq : noResetNext s) (hr : Reducing s) (hpos : 0 < s.cr.width.toNat) {n : Nat} (hn : n < 2 ^ 64) :
    step (onPixel s.cr.width.toNat n (pass2At s npix n))
      = .next (nextPixel finishStats (onPixel s.cr.width.toNat n (pass2At s npix (n + 1)))) := by
  have hpix : pixelAt (onPixel s.cr.width.toNat n (pass2At s npix n)) = Vector.ofFn fun c => Spec.pix s n c :=
    pixelAt_onPixel (s := pass2At s npix n) hpos hn
  rw [← pass2Pixel_pass2At]
  exact (step_pass2 (s := onPixel s.cr.width.toNat n (pass2At s npix n)) hq hr rfl).trans (by rw [hpix])

/-- Both passes, one step per pixel each. -/
theorem run_passes (hq : noResetNext s) (hr : Reducing s) (hpos : 0 < s.cr.width.toNat) (hnpix : s.st.npix.toNat = npix)
    (h0 : 0 < npix) (hlt : npix < 2 ^ 64) : Sys2Proof.core.run (2 * npix) (onPixel s.cr.width.toNat 0 (pass1At s 0))
      = .next (finishStats (onPixel s.cr.width.toNat (npix - 1) (pass2At s npix npix))) := by
  have hrun1 := run_pixels (f := pass1At s) (done := endPass1) npix (fun _ => rfl) hpos (fun _ => hnpix) hlt.le
    (fun n hn => step_pass1At hq hr hpos (by omega)) (npix - 1) 0 (by omega)
  have hrun2 := run_pixels (f := pass2At s npix) (done := finishStats) 0 (fun _ => rfl) hpos (fun _ => hnpix) hlt.le
    (fun n hn => step_pass2At hq hr hpos (by omega)) (npix - 1) 0 (by omega)
  rw [show npix + (npix - 1 + 1) = 2 * npix by omega, endPass1_pass1At hnpix] at hrun1
  rw [show 0 + (npix - 1 + 1) = npix by omega] at hrun2
  exact hrun1.trans hrun2

end

/-- Settles O33: the start of O32, pass 1, pass 2, and the registers they leave. -/
theorem statsTwoPasses : Obligations.StatsTwoPasses := by
  intro s hr hn hc hb hpos hlt
  generalize hN : s.cr.width.toNat * s.cr.height.toNat = npix at *
  have hw : 0 < s.cr.width.toNat := Nat.pos_of_mul_pos_right (hN ▸ hpos)
  have hmul : s.cr.width * s.cr.height = BitVec.ofNat 64 npix := by
    rw [← hN, BitVec.ofNat_mul, BitVec.ofNat_toNat, BitVec.ofNat_toNat, BitVec.setWidth_eq, BitVec.setWidth_eq]
  have hnpix : (s.cr.width * s.cr.height).toNat = npix := by rw [hmul, toNat_ofNat_of_lt (Nat.lt_of_lt_of_le hlt (by decide)) le_rfl]
  have hne : s.cr.width * s.cr.height ≠ 0 := fun h0 => by simp [h0] at hnpix; omega
  have hstep : step s = .next (onPixel s.cr.width.toNat 0 (pass1At (startStatistics (startCommand 3 s)) 0)) := by
    rw [step_command (not_resetNow_of_noResetNext hn) hr hc]
    refine (exec_command_ready (i := .stats) rfl hr).trans (congrArg Host.Outcome.next ?_)
    refine ((if_neg hb).trans (if_neg hne)).trans ?_
    rw [onPixel, Nat.zero_div, Nat.zero_mod]
    rfl
  have hrun := run_passes (s := startStatistics (startCommand 3 s)) hn ⟨rfl, rfl⟩ hw hnpix hpos (Nat.lt_of_lt_of_le hlt (by decide))
  refine ⟨_, (run_succ _ hstep).trans hrun, ?_, rfl, rfl, rfl, rfl, rfl, rfl, rfl, rfl, rfl, rfl, rfl, rfl, rfl, rfl⟩
  exact finishStats_pass2At (congrArg StatRegs.start hmul) (Nat.lt_of_lt_of_le hlt (by decide))

end Sys2Proof.Machine
end

section
/-!
The numerics record (spec/45_statistics.md rule R281): the fields of an encoding, the classes of values, and the special
cases of every operation.
-/
namespace Sys2Proof.Machine

variable {a b : F32} {n : Bool}

/-! ## Fields -/

/-- The encoding without its sign is the exponent field over the fraction field. -/
theorem toNat_mod_eq (a : F32) : a.toNat % 2 ^ 31 = fExp a * 2 ^ 23 + fFrac a := by
  unfold fExp fFrac
  omega

theorem fExp_lt (a : F32) : fExp a < 256 := Nat.mod_lt _ (by decide)

theorem fFrac_lt (a : F32) : fFrac a < 2 ^ 23 := Nat.mod_lt _ (by decide)

theorem fNeg_eq (a : F32) : fNeg a = decide (2 ^ 31 ≤ a.toNat) := by
  rw [fNeg, ← BitVec.msb_eq_getLsbD_last, BitVec.msb_eq_decide]

/-- An encoding is its sign, its exponent field and its fraction field. -/
theorem toNat_eq (a : F32) : a.toNat = (fNeg a).toNat * 2 ^ 31 + (fExp a * 2 ^ 23 + fFrac a) := by
  have hlt := a.isLt
  rw [fNeg_eq, ← toNat_mod_eq]
  by_cases h : 2 ^ 31 ≤ a.toNat <;> simp only [h, decide_true, decide_false, Bool.toNat_true, Bool.toNat_false] <;> omega

section
variable {m : Nat} (hm : m < 2 ^ 31)
include hm

theorem toNat_fEncode (n : Bool) : (fEncode n m).toNat = n.toNat * 2 ^ 31 + m := by
  have := n.toNat_le
  rw [fEncode, BitVec.toNat_ofNat, Nat.mod_eq_of_lt (by omega)]

@[simp] theorem fNeg_fEncode (n : Bool) : fNeg (fEncode n m) = n := by
  rw [fNeg_eq, toNat_fEncode hm]
  cases n
  · simp
    omega
  · simp

theorem fExp_fEncode (n : Bool) : fExp (fEncode n m) = m / 2 ^ 23 := by
  rw [fExp, toNat_fEncode hm]
  omega

theorem fFrac_fEncode (n : Bool) : fFrac (fEncode n m) = m % 2 ^ 23 := by
  rw [fFrac, toNat_fEncode hm]
  omega

end

theorem fEncode_fields (a : F32) : fEncode (fNeg a) (fExp a * 2 ^ 23 + fFrac a) = a :=
  BitVec.eq_of_toNat_eq (by rw [toNat_fEncode (by rw [← toNat_mod_eq]; omega), ← toNat_eq])

/-! ## Classes -/

theorem isFinite_iff : isFinite a = true ↔ fExp a ≠ 255 := by simp [isFinite]

theorem isNaN_iff : isNaN a = true ↔ fExp a = 255 ∧ fFrac a ≠ 0 := by simp [isNaN]

theorem isInf_iff : isInf a = true ↔ fExp a = 255 ∧ fFrac a = 0 := by simp [isInf]

theorem isNaN_of_isFinite (h : isFinite a = true) : isNaN a = false :=
  Bool.eq_false_iff.2 fun hn => isFinite_iff.1 h (isNaN_iff.1 hn).1

theorem isInf_of_isFinite (h : isFinite a = true) : isInf a = false :=
  Bool.eq_false_iff.2 fun hn => isFinite_iff.1 h (isInf_iff.1 hn).1

theorem isInf_iff_eq_fInf : isInf a = true ↔ a = fInf (fNeg a) := by
  rw [isInf_iff]
  constructor
  · rintro ⟨he, hf⟩
    have h := fEncode_fields a
    rw [he, hf] at h
    exact h.symm
  · intro h
    rw [h, fInf, fExp_fEncode (by decide), fFrac_fEncode (by decide)]
    decide

@[simp] theorem isInf_fInf (n : Bool) : isInf (fInf n) = true := by cases n <;> decide
@[simp] theorem isNaN_fInf (n : Bool) : isNaN (fInf n) = false := by cases n <;> decide
@[simp] theorem fNeg_fInf (n : Bool) : fNeg (fInf n) = n := by cases n <;> decide

theorem isNaN_fNaN (op : FOp) (a b : F32) : isNaN (fNaN op a b) = true := by
  unfold fNaN
  generalize (Config.nanFree op a b).toNat = f
  have hmod := Nat.mod_lt f (show 0 < 2 ^ 23 by decide)
  set m := 0x7F800000 + if f % 2 ^ 23 = 0 then 1 else f % 2 ^ 23 with hm
  have hbounds : 0x7F800000 < m ∧ m < 0x80000000 := by
    rw [hm]
    split_ifs <;> omega
  rw [isNaN_iff, fExp_fEncode (by omega), fFrac_fEncode (by omega)]
  omega

/-- The magnitude of a finite value is 0 exactly for the two zeros. -/
theorem fMag_eq_zero_iff (a : F32) : fMag a = 0 ↔ fKey a = 0 := by
  have hkey : fKey a = 0 ↔ a.toNat % 2 ^ 31 = 0 := by
    unfold fKey
    split_ifs <;> omega
  rw [hkey, toNat_mod_eq, fMag]
  split_ifs with h
  · omega
  · have hpos : 0 < (2 ^ 23 + fFrac a) * 2 ^ (fExp a - 1) := by positivity
    omega

/-! ## A change of sign -/

/-- `b` with its sign changed. -/
theorem flip_toNat_mod (b : F32) : (b ^^^ 0x80000000).toNat % 2 ^ 31 = b.toNat % 2 ^ 31 := by
  rw [BitVec.toNat_xor, Nat.xor_mod_two_pow]
  simp

theorem fExp_flip (b : F32) : fExp (b ^^^ 0x80000000) = fExp b := by
  have h := flip_toNat_mod b
  rw [toNat_mod_eq, toNat_mod_eq] at h
  have := fFrac_lt b
  have := fFrac_lt (b ^^^ 0x80000000)
  omega

theorem fFrac_flip (b : F32) : fFrac (b ^^^ 0x80000000) = fFrac b := by
  have h := flip_toNat_mod b
  rw [toNat_mod_eq, toNat_mod_eq, fExp_flip] at h
  omega

theorem fNeg_flip (b : F32) : fNeg (b ^^^ 0x80000000) = !fNeg b := by
  simp [fNeg]

theorem isNaN_flip (b : F32) : isNaN (b ^^^ 0x80000000) = isNaN b := by
  rw [isNaN, fExp_flip, fFrac_flip, isNaN]

theorem isFinite_flip (b : F32) : isFinite (b ^^^ 0x80000000) = isFinite b := by
  rw [isFinite, fExp_flip, isFinite]

theorem fMag_flip (b : F32) : fMag (b ^^^ 0x80000000) = fMag b := by
  rw [fMag, fExp_flip, fFrac_flip, fMag]

theorem fInf_flip (n : Bool) : fInf n ^^^ 0x80000000 = fInf !n := by cases n <;> decide

/-! ## NaNs -/

theorem fSum_of_isNaN {nan : F32} (h : isNaN a = true ∨ isNaN b = true) : fSum nan a b = nan := by
  rw [fSum, if_pos (by simpa using h)]

theorem isNaN_fmul (h : isNaN a = true ∨ isNaN b = true) : isNaN (fmul a b) = true := by
  rw [fmul, if_pos (by simpa using h), isNaN_fNaN]

theorem isNaN_fdiv (h : isNaN a = true ∨ isNaN b = true) : isNaN (fdiv a b) = true := by
  rw [fdiv, if_pos (by simpa using h), isNaN_fNaN]

theorem isNaN_fsqrt (h : isNaN a = true ∨ (fNeg a = true ∧ fKey a < 0)) : isNaN (fsqrt a) = true := by
  unfold fsqrt
  by_cases hn : isNaN a = true
  · rw [if_pos hn, isNaN_fNaN]
  · obtain ⟨hneg, hkey⟩ := h.resolve_left hn
    have hmag : fMag a ≠ 0 := fun h0 => hkey.ne ((fMag_eq_zero_iff a).1 h0)
    rw [if_neg hn, if_neg (by simp [hmag]), if_pos hneg, isNaN_fNaN]

theorem flt_of_isNaN (h : isNaN a = true ∨ isNaN b = true) : flt a b = false := by
  obtain h | h := h <;> simp [flt, h]

theorem isNaN_of_flt (h : flt a b = true) : isNaN a = false ∧ isNaN b = false := by
  simp only [flt, Bool.and_eq_true, Bool.not_eq_true'] at h
  exact h.1

theorem fmin_keepAccumulator (acc x : F32) : fmin .keepAccumulator acc x = if flt x acc then x else acc :=
  if_neg fun h => nomatch h.1

theorem fmax_keepAccumulator (acc x : F32) : fmax .keepAccumulator acc x = if flt acc x then x else acc :=
  if_neg fun h => nomatch h.1

/-- Settles O57: the first test of each operation is for a NaN, and a comparison with one is false. -/
theorem naNPropagates : Obligations.NaNPropagates := by
  refine ⟨fun a b => ⟨fun h => ⟨?_, ?_, isNaN_fmul h, isNaN_fdiv h, flt_of_isNaN h⟩, isNaN_fsqrt⟩, fun acc v hacc => ?_⟩
  · rw [fadd, fSum_of_isNaN h, isNaN_fNaN]
  · rw [fsub, fSum_of_isNaN (by rwa [isNaN_flip]), isNaN_fNaN]
  · rw [fmin_keepAccumulator, fmax_keepAccumulator]
    refine ⟨?_, ?_, fun hv => ?_⟩
    · split_ifs with h
      · exact (isNaN_of_flt h).1
      · exact hacc
    · split_ifs with h
      · exact (isNaN_of_flt h).2
      · exact hacc
    · rw [flt_of_isNaN (.inl hv), flt_of_isNaN (.inr hv)]
      exact ⟨rfl, rfl⟩

/-! ## Infinities -/

section
variable {nan : F32} (ha : isFinite a = true)
include ha

theorem fSum_fInf_right (n : Bool) : fSum nan a (fInf n) = fInf n := by
  simp [fSum, isNaN_of_isFinite ha, isInf_of_isFinite ha]

theorem fSum_fInf_left (n : Bool) : fSum nan (fInf n) a = fInf n := by
  simp [fSum, isNaN_of_isFinite ha, isInf_of_isFinite ha]

theorem fmul_fInf (hk : fKey a ≠ 0) (n : Bool) : fmul a (fInf n) = fInf (fNeg a != n) ∧ fmul (fInf n) a = fInf (fNeg a != n) := by
  have hmag : fMag a ≠ 0 := fun h => hk ((fMag_eq_zero_iff a).1 h)
  constructor
  · simp [fmul, isNaN_of_isFinite ha, isInf_of_isFinite ha, hmag]
  · simp [fmul, isNaN_of_isFinite ha, isInf_of_isFinite ha, hmag, Bool.xor_comm]

theorem fdiv_fInf_left (n : Bool) : fdiv (fInf n) a = fInf (fNeg a != n) := by
  simp [fdiv, isNaN_of_isFinite ha, isInf_of_isFinite ha, Bool.xor_comm]

theorem fdiv_fInf_right (n : Bool) : fdiv a (fInf n) = fZero (fNeg a != n) := by
  simp [fdiv, isNaN_of_isFinite ha, isInf_of_isFinite ha]

theorem fdiv_zero (hk : fKey a ≠ 0) (n : Bool) : fdiv a (fZero n) = fInf (fNeg a != n) := by
  have hmag : fMag a ≠ 0 := fun h => hk ((fMag_eq_zero_iff a).1 h)
  have hzero : isNaN (fZero n) = false ∧ isInf (fZero n) = false ∧ fMag (fZero n) = 0 ∧ fNeg (fZero n) = n := by
    cases n <;> decide
  obtain ⟨hnan, hinf, hm, hneg⟩ := hzero
  simp [fdiv, isNaN_of_isFinite ha, isInf_of_isFinite ha, hnan, hinf, hm, hneg, hmag]

/-- A finite value orders between the infinities. -/
theorem fKey_bounds : -0x7F800000 < fKey a ∧ fKey a < 0x7F800000 := by
  have he := isFinite_iff.1 ha
  have hlt := fExp_lt a
  have hf := fFrac_lt a
  have hmod := toNat_mod_eq a
  unfold fKey
  split_ifs <;> omega

theorem flt_fInf (n : Bool) : flt a (fInf n) = !n ∧ flt (fInf n) a = n := by
  obtain ⟨hlo, hhi⟩ := fKey_bounds ha
  have hkey : fKey (fInf n) = if n then -0x7F800000 else 0x7F800000 := by cases n <;> decide
  simp only [flt, isNaN_of_isFinite ha, isNaN_fInf, hkey]
  cases n <;> simp <;> omega

end

theorem isFinite_eq_false_iff (a : F32) : isFinite a = false ↔ isNaN a = true ∨ a = 0x7F800000 ∨ a = 0xFF800000 := by
  have hinf : isInf a = true ↔ a = 0x7F800000 ∨ a = 0xFF800000 := by
    rw [isInf_iff_eq_fInf]
    constructor
    · intro h
      cases hn : fNeg a <;> rw [hn] at h
      · exact .inl h
      · exact .inr h
    · rintro (rfl | rfl) <;> decide
  rw [← hinf, isNaN_iff, isInf_iff, Bool.eq_false_iff, ne_eq, isFinite_iff, not_not]
  tauto

theorem fInf_fInf (m n : Bool) : (m = n → fadd (fInf m) (fInf n) = fInf m) ∧ (m ≠ n → fsub (fInf m) (fInf n) = fInf m)
    ∧ fmul (fInf m) (fInf n) = fInf (m != n) ∧ isNaN (fdiv (fInf m) (fInf n)) = true ∧ flt (fInf m) (fInf n) = (m && !n) := by
  refine ⟨fun h => ?_, fun h => ?_, ?_, ?_, ?_⟩
  · simp [fadd, fSum, h]
  · rw [fsub, fInf_flip]
    simp [fSum, h]
  · simp [fmul]
  · simp [fdiv, isNaN_fNaN]
  · cases m <;> cases n <;> decide

/-- Settles O58: each case by the operation's own tests. -/
theorem numericSpecials : Obligations.NumericSpecials := by
  refine ⟨fun a ha hk => ⟨?_, ?_⟩, ?_, ?_, ?_, ?_, ?_, by decide, by decide, by decide, by decide, by decide,
    isFinite_eq_false_iff, fun a n ha => ⟨?_, ?_, ?_, ?_, fun hk => fmul_fInf ha hk n, fdiv_fInf_left ha n, fdiv_fInf_right ha n,
      flt_fInf ha n⟩, fInf_fInf, by decide, by decide, by decide, by decide,
    fun acc x => ⟨fmin_keepAccumulator acc x, fmax_keepAccumulator acc x, ?_, ?_⟩, fun r g b => rfl⟩
  · exact (fdiv_zero ha hk false).trans (by simp)
  · exact (fdiv_zero ha hk true).trans (by simp)
  · exact isNaN_fNaN .div 0 0
  · exact isNaN_fNaN .div 0x80000000 0
  · exact isNaN_fNaN .sub 0x7F800000 0x7F800000
  · exact isNaN_fNaN .mul 0 0x7F800000
  · exact isNaN_fNaN .add 0x7F800000 0xFF800000
  · exact fSum_fInf_right ha n
  · exact fSum_fInf_left ha n
  · exact fSum_fInf_left (by rwa [isFinite_flip]) n
  · rw [fsub, fInf_flip]
    exact fSum_fInf_right ha (!n)
  · rw [fmin]
    by_cases h : isNaN x = true <;> simp [h]
  · rw [fmax]
    by_cases h : isNaN x = true <;> simp [h]

end Sys2Proof.Machine
end

section
/-!
Rounding (spec/45_statistics.md rule R281): encodings as integer multiples of 2^-149, rounding to nearest even on a grid of
such multiples, and what the core's one rounding step delivers of a real number.
-/
namespace Sys2Proof.Machine

variable {a b : F32} {n : Bool}

/-! ## Values in units of 2^-149 -/

/-- The factor of a sign. -/
def signOf (n : Bool) : ℝ := if n then -1 else 1

@[simp] theorem signOf_true : signOf true = -1 := rfl
@[simp] theorem signOf_false : signOf false = 1 := rfl

theorem abs_signOf (n : Bool) : |signOf n| = 1 := by cases n <;> simp

/-- 2^-149, the smallest positive value. -/
noncomputable def unit : ℝ := 2 ^ (-149 : ℤ)

theorem unit_pos : 0 < unit := by
  unfold unit
  positivity

theorem two_pow_mul_unit : (2 : ℝ) ^ 149 * unit = 1 := by
  rw [unit, zpow_neg]
  norm_num

theorem cast_val (a : F32) : (Spec.val a : ℝ) = signOf (fNeg a) * (fMag a * unit) := by
  have hexp : (a.extractLsb' 23 8).toNat = fExp a := by
    rw [BitVec.extractLsb'_toNat, Nat.shiftRight_eq_div_pow, fExp]
  have hfrac : (a.extractLsb' 0 23).toNat = fFrac a := by
    rw [BitVec.extractLsb'_toNat, Nat.shiftRight_zero, fFrac]
  have hpow : fExp a ≠ 0 → (2 : ℝ) ^ ((fExp a : ℤ) - 150) = 2 ^ (fExp a - 1) * 2 ^ (-149 : ℤ) := fun h => by
    rw [← zpow_natCast, ← zpow_add₀ two_ne_zero]
    congr 1
    omega
  have hsign : (((if a.getLsbD 31 then -1 else 1 : ℚ) : ℚ) : ℝ) = signOf (fNeg a) := by
    rw [fNeg, signOf]
    split_ifs <;> norm_num
  rw [Spec.val, Rat.cast_mul, hsign, hexp, hfrac, fMag, unit]
  by_cases h : fExp a = 0
  · simp only [h, if_true]
    push_cast
    rfl
  · simp only [if_neg h]
    push_cast
    rw [hpow h]
    ring

/-- A value is its integer number of units. -/
theorem cast_val_eq_fInt (a : F32) : (Spec.val a : ℝ) = fInt a * unit := by
  rw [cast_val, fInt]
  cases fNeg a <;> simp

/-! ## The grid -/

/-- On a coarser grid every magnitude is a grid point or below the grid's least normal value. -/
theorem dvd_fMag_or_lt (a : F32) (k : Nat) : 2 ^ k ∣ fMag a ∨ (0 < k ∧ fMag a < 2 ^ (k + 23)) := by
  have hf := fFrac_lt a
  obtain rfl | hk := Nat.eq_zero_or_pos k
  · exact .inl (by simp)
  · rw [fMag]
    split_ifs with h
    · exact .inr ⟨hk, hf.trans_le (Nat.pow_le_pow_right (by decide) (by omega))⟩
    · obtain hle | hlt := le_or_gt k (fExp a - 1)
      · exact .inl (Dvd.dvd.mul_left (pow_dvd_pow 2 hle) _)
      · refine .inr ⟨hk, ?_⟩
        calc (2 ^ 23 + fFrac a) * 2 ^ (fExp a - 1) < 2 ^ 24 * 2 ^ (fExp a - 1) :=
              Nat.mul_lt_mul_of_pos_right (by omega) (by positivity)
          _ = 2 ^ (fExp a - 1 + 24) := by rw [← pow_add, Nat.add_comm]
          _ ≤ 2 ^ (k + 23) := Nat.pow_le_pow_right (by decide) (by omega)

/-- The magnitude of an encoding on the grid of 2^k: encodings are consecutive (IEEE 754). -/
theorem fMag_fEncode {k j : Nat} (hj : j ≤ 2 ^ 24) (hk : k = 0 ∨ 2 ^ 23 ≤ j) (hm : k * 2 ^ 23 + j < 2 ^ 31) (n : Bool) :
    fMag (fEncode n (k * 2 ^ 23 + j)) = j * 2 ^ k := by
  rw [fMag, fExp_fEncode hm, fFrac_fEncode hm]
  obtain hlt | hge := lt_or_ge j (2 ^ 23)
  · obtain rfl : k = 0 := hk.resolve_right (by omega)
    rw [if_pos (by omega), pow_zero]
    omega
  · obtain hlt | rfl := hj.lt_or_eq
    · rw [if_neg (by omega), show (k * 2 ^ 23 + j) / 2 ^ 23 - 1 = k by omega,
        show 2 ^ 23 + (k * 2 ^ 23 + j) % 2 ^ 23 = j by omega]
    · rw [if_neg (by omega), show (k * 2 ^ 23 + 2 ^ 24) / 2 ^ 23 - 1 = k + 1 by omega,
        show 2 ^ 23 + (k * 2 ^ 23 + 2 ^ 24) % 2 ^ 23 = 2 ^ 23 by omega, pow_succ]
      ring

/-! ## Rounding to nearest even -/

/-- `j` is the natural number nearest to `y`, the even one of two. -/
def NearestEven (y : ℝ) (j : Nat) : Prop := |(j : ℝ) - y| ≤ 1 / 2 ∧ (|(j : ℝ) - y| = 1 / 2 → j % 2 = 0)

theorem NearestEven.le {y : ℝ} {j : Nat} (h : NearestEven y j) (i : Nat) :
    |(j : ℝ) - y| ≤ |(i : ℝ) - y| ∧ (|(j : ℝ) - y| = |(i : ℝ) - y| → i ≠ j → j % 2 = 0) := by
  obtain ⟨hle, heven⟩ := h
  obtain rfl | hne := eq_or_ne i j
  · exact ⟨le_rfl, fun _ h => absurd rfl h⟩
  · have hone : (1 : ℝ) ≤ |(i : ℝ) - j| := by
      have hint : (1 : ℤ) ≤ |(i : ℤ) - j| := Int.one_le_abs (sub_ne_zero.2 (Nat.cast_injective.ne hne))
      exact_mod_cast hint
    have htri : |(i : ℝ) - j| ≤ |(i : ℝ) - y| + |(j : ℝ) - y| := by
      rw [abs_sub_comm (j : ℝ) y]
      exact abs_sub_le _ _ _
    exact ⟨by linarith, fun heq _ => heven (by linarith)⟩

/-- The core's division of naturals rounds to nearest even. -/
theorem nearestEven_divRNE (m : Nat) {d : Nat} (hd : 0 < d) : NearestEven ((m : ℝ) / d) (divRNE m d) := by
  have hsplit : (m : ℝ) / d = (m / d : ℕ) + ((m % d : ℕ) : ℝ) / d := by
    have h : (m : ℝ) = d * (m / d : ℕ) + (m % d : ℕ) := by exact_mod_cast (Nat.div_add_mod m d).symm
    have hd' : (d : ℝ) ≠ 0 := by positivity
    field_simp
    linarith
  have hd' : (0 : ℝ) < d := by exact_mod_cast hd
  have hlt : ((m % d : ℕ) : ℝ) / d < 1 := (div_lt_one hd').2 (by exact_mod_cast Nat.mod_lt m hd)
  have hnonneg : 0 ≤ ((m % d : ℕ) : ℝ) / d := by positivity
  have hhalf : 1 / 2 ≤ ((m % d : ℕ) : ℝ) / d ↔ d ≤ 2 * (m % d) := by
    rw [div_le_div_iff₀ two_pos hd']
    exact_mod_cast (by rw [Nat.one_mul, Nat.mul_comm])
  have hhalf' : ((m % d : ℕ) : ℝ) / d ≤ 1 / 2 ↔ 2 * (m % d) ≤ d := by
    rw [div_le_div_iff₀ hd' two_pos]
    exact_mod_cast (by rw [Nat.one_mul, Nat.mul_comm])
  rw [NearestEven, hsplit, divRNE]
  split_ifs with h
  · have hle := hhalf.2 (by omega)
    rw [show (((m / d + 1 : ℕ) : ℝ) - ((m / d : ℕ) + ((m % d : ℕ) : ℝ) / d)) = 1 - ((m % d : ℕ) : ℝ) / d by push_cast; ring,
      abs_of_pos (by linarith)]
    refine ⟨by linarith, fun heq => ?_⟩
    have hle' := hhalf'.1 (by linarith)
    omega
  · have hle := hhalf'.2 (by omega)
    rw [show (((m / d : ℕ) : ℝ) - ((m / d : ℕ) + ((m % d : ℕ) : ℝ) / d)) = -(((m % d : ℕ) : ℝ) / d) by ring, abs_neg,
      abs_of_nonneg hnonneg]
    refine ⟨hle, fun heq => ?_⟩
    have hle' := hhalf.1 (by linarith)
    omega

end Sys2Proof.Machine
end

section
/-!
The core's rounding step (spec/45_statistics.md rule R281): the encoding of a multiple of a power of two nearest to a
magnitude is that magnitude rounded, ties to even, and `roundQuot` delivers such an encoding.
-/
namespace Sys2Proof.Machine

/-! ## Nearest on the grid is nearest among the encodings -/

theorem abs_mul_two_pow_sub (i q : ℝ) (k : Nat) : |i * 2 ^ k - q| = |i - q / 2 ^ k| * 2 ^ k := by
  have hpos : (0 : ℝ) < 2 ^ k := by positivity
  rw [← abs_of_pos hpos, ← abs_mul, sub_mul, abs_of_pos hpos, div_mul_cancel₀ _ hpos.ne']

section
variable {q : ℝ} {k j : Nat} (hk : k = 0 ∨ (2 : ℝ) ^ (k + 23) ≤ q) (h : NearestEven (q / 2 ^ k) j)
include hk h

/-- Below the grid's least normal value encodings are finer than the grid, but further away than that value. -/
theorem NearestEven.le_fMag (a : F32) : |(j : ℝ) * 2 ^ k - q| ≤ |(fMag a : ℝ) - q|
    ∧ (|(j : ℝ) * 2 ^ k - q| = |(fMag a : ℝ) - q| → (fMag a : ℝ) ≠ j * 2 ^ k → j % 2 = 0) := by
  have hpos : (0 : ℝ) < 2 ^ k := by positivity
  obtain ⟨i, hi⟩ | ⟨hk0, hlt⟩ := dvd_fMag_or_lt a k
  · obtain ⟨hle, heven⟩ := h.le i
    have hmag : (fMag a : ℝ) = i * 2 ^ k := by
      rw [hi]
      push_cast
      ring
    rw [hmag, abs_mul_two_pow_sub, abs_mul_two_pow_sub]
    exact ⟨mul_le_mul_of_nonneg_right hle hpos.le,
      fun heq hne => heven (mul_right_cancel₀ hpos.ne' heq) fun hij => hne (by rw [hij])⟩
  · have hq := hk.resolve_left hk0.ne'
    have hmag : (fMag a : ℝ) < 2 ^ (k + 23) := by exact_mod_cast hlt
    have hnormal : |(j : ℝ) * 2 ^ k - q| ≤ q - 2 ^ (k + 23) := by
      have hle := mul_le_mul_of_nonneg_right (h.le (2 ^ 23)).1 hpos.le
      rw [← abs_mul_two_pow_sub, ← abs_mul_two_pow_sub] at hle
      rwa [Nat.cast_pow, Nat.cast_two, ← pow_add, Nat.add_comm, abs_of_nonpos (sub_nonpos.2 hq), neg_sub] at hle
    have hstrict : |(j : ℝ) * 2 ^ k - q| < |(fMag a : ℝ) - q| := by
      rw [abs_of_neg (by linarith : (fMag a : ℝ) - q < 0)]
      linarith
    exact ⟨hstrict.le, fun heq => absurd heq hstrict.ne⟩

theorem NearestEven.two_pow_le : k = 0 ∨ 2 ^ 23 ≤ j := by
  refine hk.imp_right fun hq => ?_
  have hdiv : (2 : ℝ) ^ 23 ≤ q / 2 ^ k := by
    rwa [le_div_iff₀ (by positivity), ← pow_add, Nat.add_comm]
  have hj := (abs_le.1 h.1).1
  have hlt : ((2 ^ 23 : ℕ) : ℝ) < (j + 1 : ℕ) := by
    push_cast
    linarith
  exact Nat.lt_succ_iff.1 (by exact_mod_cast hlt)

end

section
variable {q : ℝ} {k j : Nat} (hlt : q < 2 ^ (k + 24)) (h : NearestEven (q / 2 ^ k) j)
include hlt h

theorem NearestEven.le_two_pow : j ≤ 2 ^ 24 := by
  have hdiv : q / 2 ^ k < (2 : ℝ) ^ 24 := by
    rwa [div_lt_iff₀ (by positivity), ← pow_add, Nat.add_comm]
  have hj := (abs_le.1 h.1).2
  have hlt' : (j : ℝ) < (2 ^ 24 + 1 : ℕ) := by
    push_cast
    linarith
  exact Nat.lt_succ_iff.1 (by exact_mod_cast hlt')

/-- The encoding reaches infinity's exactly from half way beyond the largest finite value on. -/
theorem NearestEven.overflow_iff (hk : k = 0 ∨ (2 : ℝ) ^ (k + 23) ≤ q) :
    0x7F800000 ≤ k * 2 ^ 23 + j ↔ (2 ^ 24 - 1 / 2) * (2 : ℝ) ^ 253 ≤ q := by
  have hj := h.le_two_pow hlt
  have hj' := h.two_pow_le hk
  have hmono : ∀ m n : Nat, m ≤ n → (2 : ℝ) ^ m ≤ 2 ^ n := fun m n => pow_le_pow_right₀ one_le_two
  have hpos : (0 : ℝ) < 2 ^ 253 := by positivity
  obtain hsmall | rfl | hbig : k ≤ 252 ∨ k = 253 ∨ 254 ≤ k := by omega
  · have hq := hmono (k + 24) (253 + 23) (by omega)
    rw [pow_add 2 253] at hq
    exact iff_of_false (by omega) (by linarith)
  · have hscale : (2 ^ 24 - 1 / 2) * (2 : ℝ) ^ 253 ≤ q ↔ 2 ^ 24 - 1 / 2 ≤ q / 2 ^ 253 := (le_div_iff₀ hpos).symm
    have habs := abs_le.1 h.1
    rw [hscale]
    constructor
    · intro hm
      obtain rfl : j = 2 ^ 24 := by omega
      push_cast at habs
      linarith [habs.2]
    · intro hm
      have hge : 2 ^ 24 - 1 ≤ j := by
        have hlt' : ((2 ^ 24 - 1 : ℕ) : ℝ) < (j + 1 : ℕ) := by
          push_cast
          linarith [habs.1]
        exact Nat.lt_succ_iff.1 (by exact_mod_cast hlt')
      obtain rfl | rfl : j = 2 ^ 24 ∨ j = 2 ^ 24 - 1 := by omega
      · decide
      · have heq : |((2 ^ 24 - 1 : ℕ) : ℝ) - q / 2 ^ 253| = 1 / 2 := by
          refine le_antisymm h.1 ?_
          rw [abs_sub_comm]
          refine le_trans ?_ (le_abs_self _)
          push_cast
          linarith
        exact absurd (h.2 heq) (by decide)
  · have hq := hmono (253 + 24) (k + 23) (by omega)
    rw [pow_add 2 253] at hq
    exact iff_of_true (by omega) (by linarith [hk.resolve_left (by omega)])

end

/-! ## Rounded results -/

theorem abs_signOf_mul_sub (n n' : Bool) {M q : ℝ} (hM : 0 ≤ M) (hq : 0 ≤ q) :
    |signOf n' * (M * unit) - signOf n * (q * unit)| = (if n' = n then |M - q| else M + q) * unit := by
  have hu := unit_pos
  have hsame : |M * unit - q * unit| = |M - q| * unit := by rw [← sub_mul, abs_mul, abs_of_pos hu]
  have hopp : |M * unit + q * unit| = (M + q) * unit := by rw [← add_mul, abs_of_nonneg (by positivity)]
  cases n <;> cases n' <;> simp only [signOf_true, signOf_false, one_mul, neg_mul, reduceCtorEq, if_false, if_true]
  · exact hsame
  · rw [← hopp, ← abs_neg]
    congr 1
    ring
  · rw [← hopp]
    congr 1
    ring
  · rw [← hsame, ← abs_neg]
    congr 1
    ring

theorem getLsbD_zero_fEncode {m : Nat} (hm : m < 2 ^ 31) (n : Bool) (heven : m % 2 = 0) : (fEncode n m).getLsbD 0 = false := by
  rw [BitVec.getLsbD, toNat_fEncode hm, Nat.testBit_zero]
  exact decide_eq_false (by omega)

/-- The encoding of the grid point nearest to a magnitude is the signed magnitude rounded. -/
theorem rounded_fEncode {n : Bool} {q : ℝ} {k j : Nat} (hq : 0 ≤ q) (hk : k = 0 ∨ (2 : ℝ) ^ (k + 23) ≤ q)
    (hlt : q < 2 ^ (k + 24)) (h : NearestEven (q / 2 ^ k) j) :
    Spec.Rounded (signOf n * (q * unit)) (fEncode n (min (k * 2 ^ 23 + j) 0x7F800000)) := by
  have hu := unit_pos
  have hthreshold : (2 : ℝ) ^ 128 - 2 ^ 103 = (2 ^ 24 - 1 / 2) * 2 ^ 253 * unit := by
    have h149 := two_pow_mul_unit
    calc (2 : ℝ) ^ 128 - 2 ^ 103 = (2 ^ 128 - 2 ^ 103) * (2 ^ 149 * unit) := by rw [h149, mul_one]
      _ = _ := by ring
  have habs : |signOf n * (q * unit)| = q * unit := by rw [abs_mul, abs_signOf, one_mul, abs_of_nonneg (by positivity)]
  have hoverflow := h.overflow_iff hlt hk
  rw [Spec.Rounded, habs, hthreshold, mul_le_mul_iff_left₀ hu, mul_lt_mul_iff_left₀ hu, ← hoverflow,
    ← not_le (a := (2 ^ 24 - 1 / 2) * (2 : ℝ) ^ 253), ← hoverflow]
  refine ⟨fun hne => ?_, fun hle => ?_, fun hnot => ?_⟩
  · have hpos : 0 < q * unit := lt_of_le_of_ne (by positivity) fun h0 => hne (by rw [← h0, mul_zero])
    rw [← fNeg, fNeg_fEncode (by omega)]
    cases n
    · simpa using hpos.le
    · simpa using hpos
  · rw [min_eq_right hle]
    cases n
    · exact .inl rfl
    · exact .inr rfl
  · rw [min_eq_left (by omega)]
    set m := k * 2 ^ 23 + j with hm
    have hm31 : m < 2 ^ 31 := by omega
    have heven : j % 2 = 0 → (fEncode n m).getLsbD 0 = false := fun hj => getLsbD_zero_fEncode hm31 n (by omega)
    have hmag : (fMag (fEncode n m) : ℝ) = j * 2 ^ k := by
      rw [fMag_fEncode (h.le_two_pow hlt) (h.two_pow_le hk) hm31]
      push_cast
      rfl
    refine ⟨isFinite_iff.2 (by rw [fExp_fEncode hm31]; omega), fun r _ => ?_⟩
    have hM : (0 : ℝ) ≤ fMag r := Nat.cast_nonneg _
    obtain ⟨hle, htie⟩ := h.le_fMag hk r
    have hval : Spec.val (fEncode n m) ≠ Spec.val r → signOf n * ((j * 2 ^ k) * unit) ≠ signOf (fNeg r) * (fMag r * unit) := by
      intro hne heq
      refine hne (Rat.cast_injective (α := ℝ) ?_)
      rw [cast_val, cast_val, fNeg_fEncode hm31, hmag, heq]
    rw [cast_val, cast_val, fNeg_fEncode hm31, hmag, abs_signOf_mul_sub n n (by positivity) hq, if_pos rfl,
      abs_signOf_mul_sub n (fNeg r) hM hq, mul_le_mul_iff_left₀ hu, mul_left_inj' hu.ne']
    by_cases hsame : fNeg r = n
    · rw [if_pos hsame]
      refine ⟨hle, fun heq hne => heven (htie heq fun hM' => hval hne ?_)⟩
      rw [hsame, hM']
    · rw [if_neg hsame]
      have hsum : |(fMag r : ℝ) - q| ≤ fMag r + q := abs_le.2 ⟨by linarith, by linarith⟩
      refine ⟨hle.trans hsum, fun heq hne => heven (htie (le_antisymm hle (heq ▸ hsum)) fun hM' => hval hne ?_)⟩
      have hzero : (j : ℝ) * 2 ^ k = 0 := by
        have hle0 := (h.le_fMag hk (fZero n)).1
        have h0 : fMag (fZero n) = 0 := by cases n <;> decide
        rw [h0, Nat.cast_zero, zero_sub, abs_neg, abs_of_nonneg hq, heq, hM'] at hle0
        exact le_antisymm (by linarith) (by positivity)
      rw [hM', hzero, zero_mul, mul_zero, mul_zero]

/-! ## The rounding step -/

/-- What `roundQuot` encodes: the grid point nearest to the quotient, on the grid of its 24 significant bits. -/
theorem roundQuot_spec (n : Bool) (num : Nat) {den : Nat} (hd : 0 < den) : ∃ k j : Nat,
    roundQuot n num den = fEncode n (min (k * 2 ^ 23 + j) 0x7F800000)
      ∧ (k = 0 ∨ (2 : ℝ) ^ (k + 23) ≤ (num : ℝ) / den) ∧ (num : ℝ) / den < 2 ^ (k + 24)
      ∧ NearestEven ((num : ℝ) / den / 2 ^ k) j := by
  have hd' : (0 : ℝ) < den := by exact_mod_cast hd
  refine ⟨Nat.log2 (num / den) - 23, divRNE num (den * 2 ^ (Nat.log2 (num / den) - 23)), rfl, ?_, ?_, ?_⟩
  · rw [or_iff_not_imp_left]
    intro hk
    have hne : num / den ≠ 0 := fun h0 => hk (by rw [h0]; decide)
    have hle := Nat.log2_self_le hne
    rw [Nat.sub_add_cancel (by omega)]
    calc (2 : ℝ) ^ Nat.log2 (num / den) ≤ (num / den : ℕ) := by exact_mod_cast hle
      _ ≤ (num : ℝ) / den := Nat.cast_div_le
  · rw [div_lt_iff₀ hd']
    have hlog : num / den < 2 ^ (Nat.log2 (num / den) - 23 + 24) :=
      Nat.lt_log2_self.trans_le (Nat.pow_le_pow_right (by decide) (by omega))
    exact_mod_cast (Nat.div_lt_iff_lt_mul hd).1 hlog
  · have hnear := nearestEven_divRNE num (d := den * 2 ^ (Nat.log2 (num / den) - 23)) (by positivity)
    rw [div_div]
    exact_mod_cast hnear

theorem fNeg_roundQuot (n : Bool) (num den : Nat) : fNeg (roundQuot n num den) = n := by
  rw [roundQuot, fNeg_fEncode (by omega)]

theorem rounded_roundQuot (n : Bool) (num : Nat) {den : Nat} (hd : 0 < den) :
    Spec.Rounded (signOf n * ((num : ℝ) / den * unit)) (roundQuot n num den) := by
  obtain ⟨k, j, hround, hk, hlt, hnear⟩ := roundQuot_spec n num hd
  rw [hround]
  exact rounded_fEncode (by positivity) hk hlt hnear

end Sys2Proof.Machine
end

section
/-!
The operations of the numerics record on finite values (spec/45_statistics.md rule R281): each delivers its exact result
rounded.
-/
namespace Sys2Proof.Machine

variable {a b : F32}

theorem signOf_xor (m n : Bool) : signOf (m != n) = signOf m * signOf n := by cases m <;> cases n <;> simp

theorem inv_signOf (n : Bool) : (signOf n)⁻¹ = signOf n := by cases n <;> norm_num

theorem fInt_flip (b : F32) : fInt (b ^^^ 0x80000000) = -fInt b := by
  rw [fInt, fInt, fNeg_flip, fMag_flip]
  cases fNeg b <;> simp

theorem cast_val_flip (b : F32) : (Spec.val (b ^^^ 0x80000000) : ℝ) = -Spec.val b := by
  rw [cast_val_eq_fInt, cast_val_eq_fInt, fInt_flip]
  push_cast
  ring

theorem val_eq_zero_iff (b : F32) : Spec.val b = 0 ↔ fMag b = 0 := by
  rw [← Rat.cast_eq_zero (α := ℝ), cast_val]
  have hu := unit_pos.ne'
  have hs : signOf (fNeg b) ≠ 0 := fun h => by simpa [h] using abs_signOf (fNeg b)
  simp [hu, hs]

/-! ## Sums -/

theorem signOf_mul_natAbs (z : ℤ) : signOf (decide (z < 0)) * (z.natAbs : ℝ) = z := by
  rw [Nat.cast_natAbs, Int.cast_abs]
  by_cases h : z < 0
  · rw [decide_eq_true h, signOf_true, abs_of_neg (by exact_mod_cast h)]
    ring
  · rw [decide_eq_false h, signOf_false, abs_of_nonneg (by exact_mod_cast not_lt.1 h), one_mul]

section
variable {nan : F32} (ha : isFinite a = true) (hb : isFinite b = true)
include ha hb

theorem fSum_of_isFinite : fSum nan a b = if fInt a + fInt b = 0 then fZero (fNeg a && fNeg b)
    else roundQuot (decide (fInt a + fInt b < 0)) (fInt a + fInt b).natAbs 1 := by
  simp [fSum, isNaN_of_isFinite ha, isNaN_of_isFinite hb, isInf_of_isFinite ha, isInf_of_isFinite hb]

theorem rounded_fSum {x : ℝ} (hx : x = Spec.val a + Spec.val b) :
    (x ≠ 0 → Spec.Rounded x (fSum nan a b)) ∧ (x = 0 → fSum nan a b = if fNeg a && fNeg b then 0x80000000 else 0) := by
  have hsum : x = ((fInt a + fInt b : ℤ) : ℝ) * unit := by
    rw [hx, cast_val_eq_fInt, cast_val_eq_fInt]
    push_cast
    ring
  rw [fSum_of_isFinite ha hb]
  constructor
  · intro hne
    have hint : fInt a + fInt b ≠ 0 := fun h0 => hne (by rw [hsum, h0, Int.cast_zero, zero_mul])
    have hround := rounded_roundQuot (decide (fInt a + fInt b < 0)) (fInt a + fInt b).natAbs one_pos
    rw [if_neg hint]
    rwa [Nat.cast_one, div_one, ← mul_assoc, signOf_mul_natAbs, ← hsum] at hround
  · intro h0
    have hint : fInt a + fInt b = 0 := by
      rw [hsum, mul_eq_zero, or_iff_left unit_pos.ne'] at h0
      exact_mod_cast h0
    rw [if_pos hint]
    cases fNeg a && fNeg b <;> rfl

end

theorem rounded_fadd (ha : isFinite a = true) (hb : isFinite b = true) :
    (Spec.val a + Spec.val b ≠ 0 → Spec.Rounded (Spec.val a + Spec.val b : ℚ) (fadd a b))
      ∧ (Spec.val a + Spec.val b = 0 → fadd a b = if fNeg a && fNeg b then 0x80000000 else 0) := by
  have hsum := rounded_fSum (nan := fNaN .add a b) ha hb (Rat.cast_add _ _)
  rwa [ne_eq, Rat.cast_eq_zero] at hsum

theorem rounded_fsub (ha : isFinite a = true) (hb : isFinite b = true) :
    (Spec.val a - Spec.val b ≠ 0 → Spec.Rounded (Spec.val a - Spec.val b : ℚ) (fsub a b))
      ∧ (Spec.val a - Spec.val b = 0 → fsub a b = if fNeg a && !fNeg b then 0x80000000 else 0) := by
  have hx : ((Spec.val a - Spec.val b : ℚ) : ℝ) = Spec.val a + Spec.val (b ^^^ 0x80000000) := by
    rw [cast_val_flip, Rat.cast_sub, sub_eq_add_neg]
  have hsum := rounded_fSum (nan := fNaN .sub a b) ha ((isFinite_flip b).trans hb) hx
  rwa [ne_eq, Rat.cast_eq_zero, fNeg_flip] at hsum

/-! ## Products and quotients -/

theorem rounded_fmul (ha : isFinite a = true) (hb : isFinite b = true) :
    Spec.Rounded (Spec.val a * Spec.val b : ℚ) (fmul a b) ∧ fNeg (fmul a b) = (fNeg a != fNeg b) := by
  have heq : fmul a b = roundQuot (fNeg a != fNeg b) (fMag a * fMag b) (2 ^ 149) := by
    simp [fmul, isNaN_of_isFinite ha, isNaN_of_isFinite hb, isInf_of_isFinite ha, isInf_of_isFinite hb]
  have hx : ((Spec.val a * Spec.val b : ℚ) : ℝ)
      = signOf (fNeg a != fNeg b) * (((fMag a * fMag b : ℕ) : ℝ) / (2 ^ 149 : ℕ) * unit) := by
    have hunit : unit = 1 / 2 ^ 149 := eq_div_of_mul_eq (by positivity) (by rw [mul_comm, two_pow_mul_unit])
    rw [Rat.cast_mul, cast_val, cast_val, signOf_xor]
    push_cast
    rw [hunit]
    ring
  rw [heq, hx]
  exact ⟨rounded_roundQuot _ _ (by positivity), fNeg_roundQuot _ _ _⟩

theorem rounded_fdiv (ha : isFinite a = true) (hb : isFinite b = true) (hne : Spec.val b ≠ 0) :
    Spec.Rounded (Spec.val a / Spec.val b : ℚ) (fdiv a b) ∧ fNeg (fdiv a b) = (fNeg a != fNeg b) := by
  have hmag : fMag b ≠ 0 := fun h0 => hne ((val_eq_zero_iff b).2 h0)
  have heq : fdiv a b = roundQuot (fNeg a != fNeg b) (fMag a * 2 ^ 149) (fMag b) := by
    simp [fdiv, isNaN_of_isFinite ha, isNaN_of_isFinite hb, isInf_of_isFinite ha, isInf_of_isFinite hb, hmag]
  have hx : ((Spec.val a / Spec.val b : ℚ) : ℝ)
      = signOf (fNeg a != fNeg b) * (((fMag a * 2 ^ 149 : ℕ) : ℝ) / fMag b * unit) := by
    have hu := unit_pos.ne'
    have hquot : (fMag a : ℝ) * unit / (fMag b * unit) = (fMag a * 2 ^ 149 : ℕ) / fMag b * unit := by
      rw [mul_div_mul_right _ _ hu, Nat.cast_mul, Nat.cast_pow, Nat.cast_two, div_mul_eq_mul_div, mul_assoc, two_pow_mul_unit, mul_one]
    rw [Rat.cast_div, cast_val, cast_val, signOf_xor, mul_div_mul_comm, hquot, div_eq_mul_inv, inv_signOf]
  rw [heq, hx]
  exact ⟨rounded_roundQuot _ _ (by omega), fNeg_roundQuot _ _ _⟩

/-! ## Square roots -/

theorem isqrtFrom_spec (t : Nat) : ∀ n acc : Nat, acc * acc ≤ t → t < (acc + 2 ^ n) * (acc + 2 ^ n) →
    isqrtFrom n t acc * isqrtFrom n t acc ≤ t ∧ t < (isqrtFrom n t acc + 1) * (isqrtFrom n t acc + 1)
  | 0, _, hle, hlt => ⟨hle, hlt⟩
  | n + 1, acc, hle, hlt => by
    rw [isqrtFrom]
    split_ifs with h
    · refine isqrtFrom_spec t n _ h ?_
      rwa [Nat.add_assoc, ← Nat.two_mul, ← Nat.pow_succ']
    · exact isqrtFrom_spec t n _ hle (not_le.1 h)

theorem isqrt_spec {t : Nat} (ht : t < 2 ^ 214 * 2 ^ 214) : isqrt t * isqrt t ≤ t ∧ t < (isqrt t + 1) * (isqrt t + 1) := by
  refine isqrtFrom_spec t 214 0 (Nat.zero_le t) ?_
  rwa [Nat.zero_add]

/-- Half a unit above the integer part of an inexact root, in the same order with every integer as the root. -/
theorem sqrt_sandwich {t r : Nat} (hle : r * r ≤ t) (hlt : t < (r + 1) * (r + 1)) (c : ℤ) :
    ((c : ℝ) ≤ ((2 * r + if r * r < t then 1 else 0 : ℕ) : ℝ) / (2 : ℕ) ↔ (c : ℝ) ≤ √(t : ℝ))
      ∧ (((2 * r + if r * r < t then 1 else 0 : ℕ) : ℝ) / (2 : ℕ) ≤ c ↔ √(t : ℝ) ≤ c) := by
  have hroot : √(t : ℝ) < (r + 1 : ℕ) := (Real.sqrt_lt' (by positivity)).2 (by exact_mod_cast (by rwa [sq]))
  split_ifs with h
  · have hroot' : ((r : ℕ) : ℝ) < √(t : ℝ) := Real.lt_sqrt_of_sq_lt (by exact_mod_cast (by rwa [sq]))
    have hcast : ((2 * r + 1 : ℕ) : ℝ) / (2 : ℕ) = r + 1 / 2 := by
      push_cast
      ring
    rw [hcast]
    push_cast at hroot
    obtain hc | hc : c ≤ r ∨ (r : ℤ) + 1 ≤ c := by omega
    · have hc' : (c : ℝ) ≤ r := by exact_mod_cast hc
      exact ⟨iff_of_true (by linarith) (by linarith), iff_of_false (by linarith) (by linarith)⟩
    · have hc' : (r : ℝ) + 1 ≤ c := by exact_mod_cast hc
      exact ⟨iff_of_false (by linarith) (by linarith), iff_of_true (by linarith) (by linarith)⟩
  · have hroot' : √(t : ℝ) = r := by
      rw [show t = r * r by omega, Nat.cast_mul, Real.sqrt_mul_self (Nat.cast_nonneg r)]
    have hcast : ((2 * r + 0 : ℕ) : ℝ) / (2 : ℕ) = r := by
      push_cast
      ring
    rw [hcast, hroot']
    exact ⟨Iff.rfl, Iff.rfl⟩

/-- On a grid coarser than the integers the nearest grid point is decided by comparisons with integers. -/
theorem nearestEven_div_two_pow_succ (z : ℝ) (k j : Nat) : NearestEven (z / 2 ^ (k + 1)) j ↔
    ((((2 * j - 1) * 2 ^ k : ℤ) : ℝ) ≤ z ∧ z ≤ ((2 * j + 1) * 2 ^ k : ℤ))
      ∧ (z ≤ ((2 * j - 1) * 2 ^ k : ℤ) ∨ (((2 * j + 1) * 2 ^ k : ℤ) : ℝ) ≤ z → j % 2 = 0) := by
  have hpos : (0 : ℝ) < 2 ^ k := by positivity
  obtain ⟨y, rfl⟩ : ∃ y, z = y * 2 ^ (k + 1) := ⟨z / 2 ^ (k + 1), by field_simp⟩
  have hlo : ∀ c : ℤ, (c * 2 ^ k : ℤ) ≤ y * 2 ^ (k + 1) ↔ (c : ℝ) ≤ 2 * y := fun c => by
    push_cast
    rw [pow_succ, mul_left_comm, mul_comm _ ((2 : ℝ) ^ k), mul_le_mul_iff_right₀ hpos, mul_comm]
  have hhi : ∀ c : ℤ, y * 2 ^ (k + 1) ≤ (c * 2 ^ k : ℤ) ↔ 2 * y ≤ (c : ℝ) := fun c => by
    push_cast
    rw [pow_succ, mul_left_comm, mul_comm (c : ℝ), mul_le_mul_iff_right₀ hpos, mul_comm]
  rw [hlo, hlo, hhi, hhi, NearestEven, mul_div_cancel_right₀ _ (by positivity), abs_le]
  push_cast
  constructor
  · rintro ⟨⟨h1, h2⟩, heven⟩
    refine ⟨⟨by linarith, by linarith⟩, fun htie => heven ?_⟩
    obtain htie | htie := htie
    · rw [show (j : ℝ) - y = 1 / 2 by linarith, abs_of_pos one_half_pos]
    · rw [show (j : ℝ) - y = -(1 / 2) by linarith, abs_neg, abs_of_pos one_half_pos]
  · rintro ⟨⟨h1, h2⟩, heven⟩
    refine ⟨⟨by linarith, by linarith⟩, fun htie => heven ?_⟩
    obtain htie | htie := eq_or_eq_neg_of_abs_eq htie
    · exact .inl (by linarith)
    · exact .inr (by linarith)

/-- The encoding nearest to the half-marked root is the root rounded. -/
theorem rounded_sqrt_units {t r : Nat} (hle : r * r ≤ t) (hlt : t < (r + 1) * (r + 1)) (hr : 2 ^ 24 ≤ r) :
    Spec.Rounded (√(t : ℝ) * unit) (roundQuot false (2 * r + if r * r < t then 1 else 0) 2) := by
  obtain ⟨k, j, hround, hk, hbound, hnear⟩ := roundQuot_spec false (2 * r + if r * r < t then 1 else 0) two_pos
  have horder := sqrt_sandwich hle hlt
  have hle_iff : ∀ m : Nat, (2 : ℝ) ^ m ≤ ((2 * r + if r * r < t then 1 else 0 : ℕ) : ℝ) / (2 : ℕ) ↔ 2 ^ m ≤ √(t : ℝ) :=
    fun m => by simpa using (horder (2 ^ m)).1
  rw [hround, ← one_mul (√(t : ℝ) * unit), ← signOf_false]
  obtain rfl | ⟨k, rfl⟩ : k = 0 ∨ ∃ k', k = k' + 1 := by cases k <;> simp
  · have hroot : (2 : ℝ) ^ 24 ≤ √(t : ℝ) := by
      refine Real.le_sqrt_of_sq_le ?_
      exact_mod_cast (by rw [sq]; exact (Nat.mul_le_mul hr hr).trans hle : (2 ^ 24) ^ 2 ≤ t)
    exact absurd hbound (not_lt.2 ((hle_iff 24).2 hroot))
  · refine rounded_fEncode (Real.sqrt_nonneg _) (.inr ((hle_iff _).1 (hk.resolve_left (Nat.succ_ne_zero k))))
      (not_le.1 fun h => not_le.2 hbound ((hle_iff _).2 h)) ?_
    rw [nearestEven_div_two_pow_succ] at hnear ⊢
    rwa [(horder _).1, (horder _).1, (horder _).2, (horder _).2] at hnear

theorem fMag_lt_mul_two_pow (a : F32) : fMag a < 2 ^ 23 * 2 ^ fExp a := by
  have hf := fFrac_lt a
  rw [fMag]
  split_ifs with h
  · rwa [h, pow_zero, Nat.mul_one]
  · obtain ⟨e, he⟩ := Nat.exists_eq_succ_of_ne_zero h
    calc (2 ^ 23 + fFrac a) * 2 ^ (fExp a - 1) < 2 ^ 24 * 2 ^ (fExp a - 1) :=
          Nat.mul_lt_mul_of_pos_right (by omega) (by positivity)
      _ = 2 ^ 23 * 2 ^ fExp a := by
        rw [he, Nat.succ_sub_one, Nat.succ_eq_add_one, pow_succ 2 e]
        omega

theorem fMag_lt (ha : isFinite a = true) : fMag a < 2 ^ 23 * 2 ^ 254 := by
  have he := isFinite_iff.1 ha
  have hlt := fExp_lt a
  exact (fMag_lt_mul_two_pow a).trans_le (Nat.mul_le_mul_left _ (Nat.pow_le_pow_right (by decide) (by omega)))

theorem rounded_fsqrt (ha : isFinite a = true) (hpos : 0 < Spec.val a) :
    Spec.Rounded (Real.sqrt (Spec.val a : ℝ)) (fsqrt a) := by
  have hu := unit_pos
  have hmag : fMag a ≠ 0 := fun h0 => hpos.ne' ((val_eq_zero_iff a).2 h0)
  have hneg : fNeg a = false := by
    have hpos' : (0 : ℝ) < Spec.val a := by exact_mod_cast hpos
    rw [cast_val] at hpos'
    refine Bool.eq_false_iff.2 fun h => ?_
    rw [h, signOf_true] at hpos'
    have hnonneg : 0 ≤ fMag a * unit := by positivity
    linarith
  have heq : fsqrt a = roundQuot false (2 * isqrt (fMag a * 2 ^ 149)
      + if isqrt (fMag a * 2 ^ 149) * isqrt (fMag a * 2 ^ 149) < fMag a * 2 ^ 149 then 1 else 0) 2 := by
    simp [fsqrt, isNaN_of_isFinite ha, isInf_of_isFinite ha, hmag, hneg]
  have hunits : √(Spec.val a : ℝ) = √((fMag a * 2 ^ 149 : ℕ) : ℝ) * unit := by
    have hsq : (Spec.val a : ℝ) = (fMag a * 2 ^ 149 : ℕ) * (unit * unit) := by
      rw [cast_val, hneg, signOf_false, Nat.cast_mul, Nat.cast_pow, Nat.cast_two, one_mul, mul_assoc,
        ← mul_assoc (2 ^ 149), two_pow_mul_unit, one_mul]
    rw [hsq, Real.sqrt_mul (Nat.cast_nonneg _), Real.sqrt_mul_self hu.le]
  obtain ⟨hle, hlt⟩ := isqrt_spec (t := fMag a * 2 ^ 149) <| calc
    fMag a * 2 ^ 149 < 2 ^ 23 * 2 ^ 254 * 2 ^ 149 := Nat.mul_lt_mul_of_pos_right (fMag_lt ha) (by positivity)
    _ ≤ 2 ^ 214 * 2 ^ 214 := by decide
  have hroot : 2 ^ 24 ≤ isqrt (fMag a * 2 ^ 149) := by
    by_contra h
    have hsmall : (isqrt (fMag a * 2 ^ 149) + 1) * (isqrt (fMag a * 2 ^ 149) + 1) ≤ 2 ^ 24 * 2 ^ 24 :=
      Nat.mul_le_mul (by omega) (by omega)
    have hbig : 1 * 2 ^ 149 ≤ fMag a * 2 ^ 149 := Nat.mul_le_mul_right _ (by omega)
    exact absurd (hbig.trans_lt (hlt.trans_le hsmall)) (by decide)
  rw [heq, hunits]
  exact rounded_sqrt_units hle hlt hroot

end Sys2Proof.Machine
end

section
/-!
The order of values, whole numbers and the weights of the luminance (spec/45_statistics.md rule R281).
-/
namespace Sys2Proof.Machine

variable {a b : F32}

/-! ## Order -/

/-- Encodings of one sign order like their magnitudes: first by the exponent field, then by the fraction. -/
theorem fMag_lt_of_lt (h : a.toNat % 2 ^ 31 < b.toNat % 2 ^ 31) : fMag a < fMag b := by
  have hfa := fFrac_lt a
  rw [toNat_mod_eq, toNat_mod_eq] at h
  obtain hexp | ⟨hexp, hfrac⟩ : fExp a < fExp b ∨ fExp a = fExp b ∧ fFrac a < fFrac b := by
    have := fFrac_lt b
    omega
  · calc fMag a < 2 ^ 23 * 2 ^ fExp a := fMag_lt_mul_two_pow a
      _ ≤ (2 ^ 23 + fFrac b) * 2 ^ (fExp b - 1) :=
        Nat.mul_le_mul (Nat.le_add_right _ _) (Nat.pow_le_pow_right (by decide) (by omega))
      _ = fMag b := by rw [fMag, if_neg (by omega)]
  · rw [fMag, fMag, hexp]
    split_ifs
    · exact hfrac
    · exact Nat.mul_lt_mul_of_pos_right (by omega) (by positivity)

theorem fMag_congr (h : a.toNat % 2 ^ 31 = b.toNat % 2 ^ 31) : fMag a = fMag b := by
  have hfa := fFrac_lt a
  have hfb := fFrac_lt b
  rw [toNat_mod_eq, toNat_mod_eq] at h
  rw [fMag, fMag, show fExp a = fExp b by omega, show fFrac a = fFrac b by omega]

theorem fMag_lt_iff : fMag a < fMag b ↔ a.toNat % 2 ^ 31 < b.toNat % 2 ^ 31 := by
  refine ⟨fun h => ?_, fMag_lt_of_lt⟩
  obtain hlt | heq | hgt := lt_trichotomy (a.toNat % 2 ^ 31) (b.toNat % 2 ^ 31)
  · exact hlt
  · exact absurd h (fMag_congr heq).not_lt
  · exact absurd h (fMag_lt_of_lt hgt).not_gt

/-- The core compares encodings, in sign and magnitude, as the values order. -/
theorem fKey_lt_fKey_iff : fKey a < fKey b ↔ fInt a < fInt b := by
  have hlt := fMag_lt_iff (a := a) (b := b)
  have hgt := fMag_lt_iff (a := b) (b := a)
  have hzero : ∀ c : F32, fMag c = 0 ↔ c.toNat % 2 ^ 31 = 0 := fun c => by
    rw [fMag_eq_zero_iff, fKey]
    split_ifs <;> omega
  have ha := hzero a
  have hb := hzero b
  unfold fKey fInt
  split_ifs <;> omega

theorem flt_iff_val_lt (ha : isFinite a = true) (hb : isFinite b = true) : flt a b = true ↔ Spec.val a < Spec.val b := by
  have hflt : flt a b = decide (fKey a < fKey b) := by simp [flt, isNaN_of_isFinite ha, isNaN_of_isFinite hb]
  rw [hflt, decide_eq_true_iff, fKey_lt_fKey_iff, ← Rat.cast_lt (K := ℝ), cast_val_eq_fInt, cast_val_eq_fInt,
    mul_lt_mul_iff_left₀ unit_pos, Int.cast_lt]

/-! ## Whole numbers -/

theorem natCast_eq_units (n : Nat) : (n : ℝ) = ((n * 2 ^ 149 : ℕ) : ℝ) / (1 : ℕ) * unit := by
  rw [Nat.cast_one, div_one, Nat.cast_mul, Nat.cast_pow, Nat.cast_two, mul_assoc, two_pow_mul_unit, mul_one]

theorem rounded_ofnat (n : Nat) : Spec.Rounded (n : ℝ) (ofnat n) := by
  have h := rounded_roundQuot false (n * 2 ^ 149) one_pos
  rwa [signOf_false, one_mul, ← natCast_eq_units] at h

/-- A grid point is its own nearest one. -/
theorem NearestEven.eq_of_dvd {m k j : Nat} (hdvd : 2 ^ k ∣ m) (h : NearestEven ((m : ℝ) / 2 ^ k) j) : j * 2 ^ k = m := by
  obtain ⟨i, rfl⟩ := hdvd
  have hi : ((2 ^ k * i : ℕ) : ℝ) / 2 ^ k = i := by
    rw [Nat.cast_mul, Nat.cast_pow, Nat.cast_two, mul_div_cancel_left₀ _ (by positivity)]
  obtain ⟨hle, -⟩ := h
  rw [hi] at hle
  have hint : |(j : ℤ) - i| < 1 := by
    have hlt : |(j : ℝ) - i| < 1 := by linarith
    exact_mod_cast hlt
  have hij : (j : ℤ) = i := sub_eq_zero.1 (Int.abs_lt_one_iff.1 hint)
  rw [Nat.cast_injective (R := ℤ) hij, Nat.mul_comm]

/-- Up to 2^24 the significant bits of a whole number fit an encoding. -/
theorem ofnat_exact {n : Nat} (hn : n ≤ 2 ^ 24) : isFinite (ofnat n) = true ∧ Spec.val (ofnat n) = n := by
  obtain ⟨k, j, hround, hk, hlt, hnear⟩ := roundQuot_spec false (n * 2 ^ 149) one_pos
  rw [Nat.cast_one, div_one] at hk hlt hnear
  have hgrid : k = 0 ∨ 2 ^ (k + 23) ≤ n * 2 ^ 149 := hk.imp_right fun h => by exact_mod_cast h
  have hk150 : k ≤ 150 := by
    by_contra hbig
    have hle := (hgrid.resolve_left (by omega)).trans (Nat.mul_le_mul_right _ hn)
    rw [← pow_add] at hle
    exact absurd ((Nat.pow_le_pow_iff_right (by decide)).1 hle) (by omega)
  have hdvd : 2 ^ k ∣ n * 2 ^ 149 := by
    obtain hle | rfl : k ≤ 149 ∨ k = 150 := by omega
    · exact Dvd.dvd.mul_left (pow_dvd_pow 2 hle) n
    · have hge : 2 ^ 24 * 2 ^ 149 ≤ n * 2 ^ 149 := hgrid.resolve_left (by decide)
      obtain rfl : n = 2 ^ 24 := le_antisymm hn (Nat.le_of_mul_le_mul_right hge (by decide))
      decide
  have hj := hnear.le_two_pow hlt
  have hmag := fMag_fEncode hj (hnear.two_pow_le hk) (by omega) false
  rw [hnear.eq_of_dvd hdvd] at hmag
  rw [ofnat, hround, min_eq_left (by omega)]
  refine ⟨isFinite_iff.2 (by rw [fExp_fEncode (by omega)]; omega), Rat.cast_injective (α := ℝ) ?_⟩
  rw [cast_val, fNeg_fEncode (by omega), signOf_false, one_mul, hmag, Rat.cast_natCast, natCast_eq_units n, Nat.cast_one, div_one]

/-! ## Constants -/

/-- A quotient of naturals, rounded by the core's rounding step. -/
theorem rounded_div (m : Nat) {d : Nat} (hd : 0 < d) : Spec.Rounded ((m : ℝ) / d) (roundQuot false (m * 2 ^ 149) d) := by
  have h := rounded_roundQuot false (m * 2 ^ 149) hd
  rwa [signOf_false, one_mul, Nat.cast_mul, Nat.cast_pow, Nat.cast_two, mul_div_right_comm, mul_assoc, two_pow_mul_unit,
    mul_one] at h

/-- Settles O59: every finite result is one `roundQuot` of the exact result in units of 2^-149. -/
theorem finiteArithmeticRounds : Obligations.FiniteArithmeticRounds := by
  refine ⟨fun a b ha hb => ⟨rounded_fadd ha hb, rounded_fsub ha hb, rounded_fmul ha hb, rounded_fdiv ha hb, rounded_fsqrt ha,
    flt_iff_val_lt ha hb⟩, fun n => ⟨rounded_ofnat n, fNeg_roundQuot _ _ _, ofnat_exact⟩, ?_, ?_, ?_⟩
  · have hK0 : roundQuot false (3 * 2 ^ 149) 10 = 0x3E99999A := by decide
    exact_mod_cast hK0 ▸ rounded_div 3 (d := 10) (by decide)
  · have hK1 : roundQuot false (59 * 2 ^ 149) 100 = 0x3F170A3D := by decide
    exact_mod_cast hK1 ▸ rounded_div 59 (d := 100) (by decide)
  · have hK2 : roundQuot false (11 * 2 ^ 149) 100 = 0x3DE147AE := by decide
    exact_mod_cast hK2 ▸ rounded_div 11 (d := 100) (by decide)

end Sys2Proof.Machine
end
